-- ==== Sys2Proof/Syntax.lean ====
section
/-! DEFINITION. The sixteen commands of rule R72, one constructor per row of the opcode table. -/

namespace Sys2Proof

/-- A command. Only `MAP` and `DEMOD` have an immediate operand (rule R73): a natural, used as it is. -/
inductive Instr where
  /-- `NOP`, rule R91. -/
  | nop
  /-- `DERIVE`, rule R93. -/
  | derive
  /-- `CLRERR`, rule R97. -/
  | clrerr
  /-- `FRAME`, rule R112. -/
  | frame
  /-- `PACK`, rule R114. -/
  | pack
  /-- `UNPACK`, rule R115. -/
  | unpack
  /-- `DEFRAME`, rule R116. -/
  | deframe
  /-- `MAP i`, rule R129: i indexes `SYMS`. -/
  | map (i : Nat)
  /-- `UNMAP`, rule R131. -/
  | unmap
  /-- `MOD`, rule R143. -/
  | mod
  /-- `DEMOD i`, rule R157: i is the window index. -/
  | demod (i : Nat)
  /-- `CHIRP`, rule R169. -/
  | chirp
  /-- `TXPRE`, rule R171. -/
  | txpre
  /-- `DETECT`, rule R176. -/
  | detect
  /-- `TXFRAME`, rule R186. -/
  | txframe
  /-- `RXFRAME`, rule R189. -/
  | rxframe
deriving DecidableEq, Repr

end Sys2Proof
end

