-- ==== Sys2Proof/WellFormed.lean ====
section
/-! DEFINITION. Which commands a 32-bit word can hold: an immediate operand is a natural below 2^24 (rule R73). -/

namespace Sys2Proof

/-- The operand the encoding puts in `imm` (rules R72, R73): the index of `MAP` and `DEMOD`, else 0. -/
def Instr.operand : Instr → Nat
  | .map i => i
  | .demod i => i
  | .nop | .derive | .clrerr | .frame | .pack | .unpack | .deframe | .unmap | .mod | .chirp | .txpre
  | .detect | .txframe | .rxframe => 0

/-- A command that a word can name: "an index of 2^24 or more cannot be named by `MAP` or `DEMOD`" (rule R73). -/
def Instr.wellFormed (i : Instr) : Bool := decide (i.operand < 2 ^ 24)

end Sys2Proof
end

