-- ==== Sys2Proof/Word.lean ====
section
/-! DEFINITION. The value domains of the block: a 32-bit machine word (rule R17), and the element types of
the typed buffers (rules R10, R14, R39). Nothing here can overflow but `Word`. -/

namespace Sys2Proof

/-- A 32-bit machine word: `CMD`, `STATUS`, `RESULT`, `ERRLOG`, `ERRINFO` (rule R17). -/
abbrev Word := BitVec 32

/-- A bit of `PAYLOAD` or `FBITS`: 0 is `false`, 1 is `true` (rules R14, R39). -/
abbrev Bit := Bool

/-- A sample, an exact rational (rules R10, R39). -/
abbrev Sample := Rat

/-- A BandStateVector: element b is the state index of band b, band 0 the lowest in frequency (rule R31). -/
abbrev BandVector := List Nat

end Sys2Proof
end

