-- ==== Sys2Proof/Decode.lean ====
section
/-! DEFINITION. The command word, format `C` (rules R70 to R74): its fields, the decoder, total on every word and
rejecting by name, and the encoder. -/

namespace Sys2Proof

/-- Why a word selects no command (rule R74): both raise `IllegalCommand`. -/
inductive DecodeReject where
  /-- (a) `op` is not in the table of rule R72: info 1. -/
  | undefinedOpcode
  /-- (b) a command with no operand whose `imm` is not 0: info 2. -/
  | nonZeroImmediate
deriving DecidableEq, Repr

/-- The field `op`, bits 31:24 (rule R70). -/
def opField (c : Word) : BitVec 8 := c.extractLsb' 24 8

/-- The field `imm`, bits 23:0 (rule R70). -/
def immField (c : Word) : BitVec 24 := c.extractLsb' 0 24

/-- A command with no operand: its `imm` must be 0 (rule R74 (b)). -/
def plainCommand (i : Instr) (imm : BitVec 24) : Except DecodeReject Instr :=
  if imm = 0 then .ok i else .error .nonZeroImmediate

/-- Steps (2) of rule R71: select the row of rule R72 by `op`, the operand being `zext_24(imm)` (rule R73). -/
def decode (c : Word) : Except DecodeReject Instr :=
  match (opField c).toNat with
  | 0x00 => plainCommand .nop (immField c)
  | 0x01 => plainCommand .derive (immField c)
  | 0x02 => plainCommand .clrerr (immField c)
  | 0x10 => plainCommand .frame (immField c)
  | 0x11 => plainCommand .pack (immField c)
  | 0x12 => plainCommand .unpack (immField c)
  | 0x13 => plainCommand .deframe (immField c)
  | 0x20 => .ok (.map (immField c).toNat)
  | 0x21 => plainCommand .unmap (immField c)
  | 0x30 => plainCommand .mod (immField c)
  | 0x31 => .ok (.demod (immField c).toNat)
  | 0x40 => plainCommand .chirp (immField c)
  | 0x41 => plainCommand .txpre (immField c)
  | 0x42 => plainCommand .detect (immField c)
  | 0x50 => plainCommand .txframe (immField c)
  | 0x51 => plainCommand .rxframe (immField c)
  | _ => .error .undefinedOpcode

/-- The column `op` of rule R72. -/
def Instr.opcode : Instr → BitVec 8
  | .nop => 0x00
  | .derive => 0x01
  | .clrerr => 0x02
  | .frame => 0x10
  | .pack => 0x11
  | .unpack => 0x12
  | .deframe => 0x13
  | .map _ => 0x20
  | .unmap => 0x21
  | .mod => 0x30
  | .demod _ => 0x31
  | .chirp => 0x40
  | .txpre => 0x41
  | .detect => 0x42
  | .txframe => 0x50
  | .rxframe => 0x51

/-- The word of a command: `(op << 24) | imm` (rule R75), `op` above `imm` (rule R70). -/
def encode (i : Instr) : Word := i.opcode ++ BitVec.ofNat 24 i.operand

/-- What the decoder reads from a word given by its `nbits` low bits (the bits above are 0), bit 0 the least
significant (rule R17). -/
def decodeTableWord (nbits w : Nat) : Option Instr :=
  match decode (BitVec.ofNat 32 (w % 2 ^ nbits)) with
  | .ok i => some i
  | .error _ => none

end Sys2Proof
end

