-- ==== Sys2Proof/Machine/Arith.lean ====
section
/-! DEFINITION. The notation functions of `00_scope.md` (rules R11 to R15): exact arithmetic over ℕ, ℤ and ℚ, no
wrap-around anywhere (rule R10). `floor` is `Rat.floor`, `div` and `mod` are those of ℕ. -/

namespace Sys2Proof.Machine

/-- `round_he` (rule R12): the nearest integer, the even one half way. -/
def roundHE (x : Rat) : Int :=
  if x - x.floor < 1 / 2 then x.floor
  else if 1 / 2 < x - x.floor then x.floor + 1
  else if x.floor % 2 = 0 then x.floor
  else x.floor + 1

/-- `ilog2` (rule R11): for m ≥ 1 the greatest k with 2^k ≤ m. -/
def ilog2 (m : Nat) : Nat := Nat.log2 m

/-- `ceil(a / b)` for naturals, b ≥ 1 (rule R11). -/
def ceilDiv (a b : Nat) : Nat := (a + b - 1) / b

/-- `clip` (rule R13): to the valid output range [−1, +1]. -/
def clip (x : Rat) : Rat := max (-1) (min 1 x)

/-- The value of a bit (rule R14). -/
def bitValue (b : Bool) : Nat := if b then 1 else 0

/-- `be_value` (rule R14): element 0 is the most significant bit. -/
def beValue : List Bool → Nat
  | [] => 0
  | b :: bs => bitValue b * 2 ^ bs.length + beValue bs

/-- `be_bits(v, n)` (rule R14): bit j of the result has weight 2^(n−1−j). -/
def beBits (v n : Nat) : List Bool := (List.range n).map fun j => v.testBit (n - 1 - j)

/-- `s[i:j]` (rule R15). -/
def slice {α : Type} (s : List α) (i j : Nat) : List α := (s.drop i).take (j - i)

/-- `zeros(n)` of samples: silence (rules R13, R15). -/
def silence (n : Nat) : List Rat := List.replicate n 0

/-- The values of `f` along a list, or the first error met (the order of evaluation of rules R156 and R188). -/
def collect {ε α β : Type} (f : α → Except ε β) : List α → Except ε (List β)
  | [] => .ok []
  | a :: as =>
    match f a with
    | .error e => .error e
    | .ok b =>
      match collect f as with
      | .error e => .error e
      | .ok bs => .ok (b :: bs)

/-- The greatest value with its key, the earliest key on ties (the peak rules R153 and R177). -/
def earliestMax : List (Nat × Rat) → Option (Nat × Rat)
  | [] => none
  | p :: ps =>
    match earliestMax ps with
    | none => some p
    | some m => if m.2 ≤ p.2 then some p else some m

end Sys2Proof.Machine
end

