-- ==== Sys2Proof/Config.lean ====
section
/-! DEFINITION. What an implementation fixes and the spec leaves open (rule R7): the numerics record `Numerics` with its
opaque value `Config.num` and the named properties of rule R8, and the type of the four capacities (rule R9). -/

namespace Sys2Proof

/-- The numerics parameters (rules R7, R8): functions of their one argument, the angle counted in turns. -/
structure Numerics where
  /-- `NUM.sinturn`: the ideal is sin(2π·x). -/
  sinturn : Rat → Rat
  /-- `NUM.costurn`: the ideal is cos(2π·x). -/
  costurn : Rat → Rat
  /-- `NUM.q`, the quantiser of every generated sample: the ideal is the identity. -/
  q : Rat → Rat
deriving Inhabited

/-- `NP_range` of rule R8. -/
def Numerics.NPRange (n : Numerics) : Prop :=
  ∀ x, (-1 ≤ n.sinturn x ∧ n.sinturn x ≤ 1) ∧ (-1 ≤ n.costurn x ∧ n.costurn x ≤ 1)

/-- `NP_zero` of rule R8. -/
def Numerics.NPZero (n : Numerics) : Prop :=
  n.sinturn 0 = 0 ∧ n.costurn 0 = 1 ∧ n.q 0 = 0

/-- `NP_q_range` of rule R8. -/
def Numerics.NPQRange (n : Numerics) : Prop :=
  ∀ x, -1 ≤ x → x ≤ 1 → -1 ≤ n.q x ∧ n.q x ≤ 1

/-- `NP_ideal` of rule R8, the document's own formulas, "over the reals (not executable over ℚ)": `Laws/Numerics.lean`
shows that no record of functions ℚ → ℚ has it, so a claim that assumes it says nothing and none here does. -/
def Numerics.NPIdeal (n : Numerics) : Prop :=
  ∀ x : Rat, (n.sinturn x : ℝ) = Real.sin (2 * Real.pi * x) ∧ (n.costurn x : ℝ) = Real.cos (2 * Real.pi * x) ∧ n.q x = x

/-- The numerics this implementation has: a FREE VALUE (DESIGN CHOICE, safe, log 5). It has no body, so a claim about
the machine holds for every numerics. -/
opaque Config.num : Numerics

/-- A capacity, a natural number or ∞ (`none`), rule R7. -/
abbrev Capacity := Option Nat

/-- The four capacities of rule R7: the parameters `CAP_BITS`, `CAP_SYMS`, `CAP_SAMPLES`, `CAP_BANDS`. -/
structure Caps where
  /-- `CAP_BITS`: `PAYLOAD` and `FBITS`, in bits. -/
  bits : Capacity
  /-- `CAP_SYMS`: `SYMS`, in symbols. -/
  syms : Capacity
  /-- `CAP_SAMPLES`: `TPL`, `TXS` and `RXS`, in samples each. -/
  samples : Capacity
  /-- `CAP_BANDS`: the largest `BAND_COUNT` the `SV` file holds. -/
  bands : Capacity
deriving DecidableEq, Repr

end Sys2Proof
end

