-- ==== Sys2Proof/Machine/State.lean ====
section
/-! DEFINITION. The state of the block as plain data (rule R20), the host's moves (rule R63), the reasons a step
could stop, and the state after reset (rule R43). -/

namespace Sys2Proof.Machine

/-- The configuration registers 0 to 11 (rule R22), class `RW-cfg`. -/
structure ConfigRegs where
  /-- Register 0, `SAMPLE_RATE` (`sr`), Hz. -/
  sampleRate : Rat
  /-- Register 1, `SYMBOL_DURATION`, s. -/
  symbolDuration : Rat
  /-- Register 2, `BAND_LOW` (`low`), Hz. -/
  bandLow : Rat
  /-- Register 3, `BAND_HIGH`, Hz. -/
  bandHigh : Rat
  /-- Register 4, `BAND_COUNT` (`B`). -/
  bandCount : Nat
  /-- Register 5, `STEP` (`step`), Hz. -/
  step : Rat
  /-- Register 6, `PRE_DURATION`, s. -/
  preDuration : Rat
  /-- Register 7, `PRE_START_FREQ`, Hz. -/
  preStartFreq : Rat
  /-- Register 8, `PRE_END_FREQ`, Hz. -/
  preEndFreq : Rat
  /-- Register 9, `GUARD_DURATION`, s. -/
  guardDuration : Rat
  /-- Register 10, `LENGTH_FIELD_BITS` (`lfb`), bits. -/
  lengthFieldBits : Nat
  /-- Register 11, `SYNC_THRESHOLD` (`thr`), amplitude² (rule R25). -/
  syncThreshold : Rat
deriving DecidableEq, Repr

/-- The derived-geometry registers 16 to 23 (rule R28), class `RO`, written by `DERIVE` alone. -/
structure Geometry where
  /-- Register 16, `BAND_WIDTH`, Hz. -/
  bandWidth : Rat
  /-- Register 17, `STATES_PER_BAND` (`S`). -/
  statesPerBand : Nat
  /-- Register 18, `ALPHABET_SIZE`. -/
  alphabetSize : Nat
  /-- Register 19, `BITS_PER_SYMBOL` (`w`). -/
  bitsPerSymbol : Nat
  /-- Register 20, `N_SYMBOL` (`N`), samples. -/
  nSymbol : Nat
  /-- Register 21, `L_PREAMBLE` (`L`), samples. -/
  lPreamble : Nat
  /-- Register 22, `G_GUARD` (`G`), samples. -/
  gGuard : Nat
  /-- Register 23, `CHIRP_RATE`, Hz/s. -/
  chirpRate : Rat
deriving DecidableEq, Repr

/-- The detection-result registers 24 to 26 (rule R30), class `RO`. -/
structure SyncRegs where
  /-- Register 24, `SYNC_OFFSET`: index in `RXS` of the first sample of the chirp. -/
  offset : Nat
  /-- Register 25, `SYNC_PEAK`: the correlation there. -/
  peak : Rat
  /-- Register 26, `DATA_START`: index in `RXS` of the first sample of the data region. -/
  dataStart : Nat
deriving DecidableEq, Repr

/-- The six buffers of rule R38. -/
inductive Buffer where
  /-- Id 0, the logical payload, bits. -/
  | payload
  /-- Id 1, the frame bits. -/
  | fbits
  /-- Id 2, the packed symbols. -/
  | syms
  /-- Id 3, the chirp template, samples; read-only to the host (rule R40). -/
  | tpl
  /-- Id 4, the waveform to play, samples. -/
  | txs
  /-- Id 5, the captured waveform, samples. -/
  | rxs
deriving DecidableEq, Repr

/-- The content of a buffer as the typed port carries it (rules R39, R63). -/
inductive BufData where
  | bits (b : List Bit)
  | symbols (s : List Nat)
  | samples (x : List Sample)
deriving DecidableEq, Repr

/-- The host's moves (rule R63). A register's value crosses the typed port as a rational, a natural or a
word being the rational of that value (log 8). -/
inductive HostMove where
  /-- `HostWriteReg(no, v)`. -/
  | writeReg (no : Nat) (v : Rat)
  /-- `HostReadReg(no)`. -/
  | readReg (no : Nat)
  /-- `HostWriteSV(v)`, rule R32. -/
  | writeSv (v : BandVector)
  /-- `HostReadSV()`. -/
  | readSv
  /-- `HostLoad(buf, s)`. -/
  | load (buf : Buffer) (d : BufData)
  /-- `HostRead(buf)`. -/
  | read (buf : Buffer)
  /-- `HostIssue(word)`. -/
  | issue (c : Word)
  /-- `HostReset()`, rule R220. -/
  | reset
deriving DecidableEq, Repr

/-- What a read move returns to the host (rule R63). -/
inductive HostAnswer where
  /-- A register's value. -/
  | reg (v : Rat)
  /-- `SV` and `FLAG.SV_VALID`; an element with no value is `none` (rules R31, R203). -/
  | sv (elements : List (Option Nat)) (valid : Bool)
  /-- A buffer's whole content. -/
  | buffer (d : BufData)
deriving DecidableEq, Repr

/-- Why a step stops with a fault. There is none: the block has no trap and stops on nothing (rules R205, R206), a
failing command records its result and the block goes on. No constructor, so no fault can be raised (safe). -/
inductive Fault where
deriving DecidableEq, Repr

/-- Why a step refuses an instruction. -/
inductive Refusal where
  /-- An instruction without a meaning yet, raised by an arm of `exec` alone (safe); no arm raises it, since every
  command has its meaning. -/
  | notModelled (mnemonic : String)
deriving DecidableEq, Repr

/-- The state of the block, exactly rule R20's list, and the model's own three fields at the end. -/
structure State where
  /-- Registers 0 to 11 (rule R22). -/
  cfg : ConfigRegs
  /-- Register 12, `ARG0` (rule R26). -/
  arg0 : Nat
  /-- Registers 16 to 23 (rule R28). -/
  geo : Geometry
  /-- Registers 24 to 26 (rule R30). -/
  sync : SyncRegs
  /-- The `SV` file (rule R31); an element nothing has written holds no value (rule R93, log 6). -/
  sv : List (Option Nat)
  /-- Register 32, `STATUS` (rule R34). -/
  status : Word
  /-- Register 33, `RESULT` (rule R35). -/
  result : Word
  /-- Register 34, `ERRLOG` (rule R36). -/
  errlog : Word
  /-- Register 35, `ERRINFO` (rule R37). -/
  errinfo : Word
  /-- Register 36, `CMD`, the last command word (rule R59). -/
  cmd : Word
  /-- Buffer 0 (rule R38). -/
  payload : List Bit
  /-- Buffer 1 (rule R38). -/
  fbits : List Bit
  /-- Buffer 2 (rule R38). -/
  syms : List Nat
  /-- Buffer 3 (rules R38, R40). -/
  tpl : List Sample
  /-- Buffer 4 (rule R38). -/
  txs : List Sample
  /-- Buffer 5 (rules R38, R41). -/
  rxs : List Sample
  /-- The model's own: the capacities, parameters of the step (rules R7, R9, R20), written by nothing (log 4). -/
  caps : Caps
  /-- The model's own: the host's moves still to come, oldest first (rules R60, R236, log 1). -/
  pending : List HostMove
  /-- The model's own: what the host's last read returned (rule R63, log 3). -/
  answer : Option HostAnswer
deriving DecidableEq, Repr

/-- The block right after reset (rules R43, R221), with the capacities, the host's further moves and its last answer as
given: these three are not the block's state. -/
def State.resetWith (caps : Caps) (pending : List HostMove) (answer : Option HostAnswer) : State where
  cfg := ⟨0, 0, 0, 0, 0, 0, 0, 0, 0, 0, 0, 0⟩
  arg0 := 0
  geo := ⟨0, 0, 0, 0, 0, 0, 0, 0⟩
  sync := ⟨0, 0, 0⟩
  sv := []
  status := 0
  result := 0
  errlog := 0
  errinfo := 0
  cmd := 0
  payload := []
  fbits := []
  syms := []
  tpl := []
  txs := []
  rxs := []
  caps := caps
  pending := pending
  answer := answer

/-- The machine after reset with no host move to come. The capacities are DESIGN CHOICE ∞ (log 4, unsafe): no
statement rests on that value. -/
def State.reset : State := State.resetWith ⟨none, none, none, none⟩ [] none

end Sys2Proof.Machine
end

