-- ==== Sys2Proof/Machine/Flags.lean ====
section
/-! DEFINITION. The flags of `STATUS` (rule R34), the three modes (rule R212), the result codes (rule R196) and the
words they make in `RESULT`, `ERRLOG` and `ERRINFO` (rules R35 to R37). -/

namespace Sys2Proof.Machine

/-- The flags of `STATUS` (rule R34). -/
inductive Flag where
  | cfgValid
  | halted
  | tplValid
  | svValid
  | synced
deriving DecidableEq, Repr

/-- The bit of `STATUS` that holds a flag (rule R34). -/
def Flag.bit : Flag → Nat
  | .cfgValid => 0
  | .halted => 1
  | .tplValid => 2
  | .svValid => 3
  | .synced => 4

/-- The word with that one bit set. -/
def Flag.mask (f : Flag) : Word := 1#32 <<< f.bit

/-- `FLAG.f` (rule R16). -/
def State.flag (s : State) (f : Flag) : Bool := s.status.getLsbD f.bit

/-- `FLAG.f <- 1`. -/
def State.setFlag (s : State) (f : Flag) : State := { s with status := s.status ||| f.mask }

/-- `FLAG.f <- 0`. -/
def State.clearFlag (s : State) (f : Flag) : State := { s with status := s.status &&& ~~~f.mask }

/-- The three modes (rule R212). -/
inductive Mode where
  | unconfigured
  | ready
  | halted
deriving DecidableEq, Repr

/-- The mode, read from `STATUS` (rule R212). `CFG_VALID` with `HALTED` "never occurs"; it would read as HALTED, as check
1 of rule R204 comes first (log 7). -/
def State.mode (s : State) : Mode :=
  if s.flag .halted then .halted else if s.flag .cfgValid then .ready else .unconfigured

/-- The result codes (rule R196). -/
inductive ResultCode where
  | ok
  | configError
  | syncError
  | decodeError
  /-- Reserved: "never by the block" (rule R199). -/
  | deviceError
  | operandError
  | illegalCommand
  | sequenceError
deriving DecidableEq, Repr

/-- The column `code` of rule R196. -/
def ResultCode.number : ResultCode → Nat
  | .ok => 0
  | .configError => 1
  | .syncError => 2
  | .decodeError => 3
  | .deviceError => 4
  | .operandError => 5
  | .illegalCommand => 6
  | .sequenceError => 7

/-- `RESULT` with `CODE` in bits 3:0 and bits 31:4 zero (rule R35). -/
def ResultCode.resultWord (e : ResultCode) : Word := BitVec.ofNat 32 e.number

/-- The bit of `ERRLOG` that a code sets (rule R36). -/
def ResultCode.logMask (e : ResultCode) : Word := 1#32 <<< e.number

/-- `ERRINFO`: `INDEX`, modulo 2^24, above `INFO` (rules R37, R197, R205). -/
def errinfoWord (info : BitVec 8) (index : Nat) : Word := BitVec.ofNat 24 index ++ info

end Sys2Proof.Machine
end

