-- ==== Sys2Proof/Machine/Ops.lean ====
section
/-! DEFINITION. The operations every command is written over: the mode check (rule R204 check 1), ending with success,
and ending with a failure (rule R205): the block's form of taking an exception. There is no return from one,
because there is no trap (rule R206). -/

namespace Sys2Proof.Machine

/-- What a meaning answers. -/
abbrev Answer := Host.Outcome State Fault Refusal

/-- The command ends with result code 0 (rule R195); `ERRLOG` and `ERRINFO` keep what they held (rules R36, R37). -/
def succeed (s : State) : State := { s with result := ResultCode.ok.resultWord }

/-- `raise E(info)` with index x, in the state the command's pseudocode has reached (rule R205): `RESULT`, the bit of
`ERRLOG`, `ERRINFO`, and for `ConfigError` alone `FLAG.HALTED <- 1` (rule R96). -/
def raiseAt (e : ResultCode) (info : BitVec 8) (index : Nat) (s : State) : State :=
  { s with
    result := e.resultWord
    errlog := s.errlog ||| e.logMask
    errinfo := errinfoWord info index
    status := if e = .configError then s.status ||| Flag.halted.mask else s.status }

/-- `raise E(info)` where the rule names no index: 0 (rule R205). -/
def raiseErr (e : ResultCode) (info : BitVec 8) (s : State) : State := raiseAt e info 0 s

/-- Check 1 of rule R204: in mode HALTED the command is ignored, nothing is written. -/
def unlessHalted (s : State) (body : State) : Answer :=
  if s.flag .halted then .next s else .next body

/-- Check 3 of rule R204, for every command but `NOP`, `DERIVE`, `CLRERR`: `SequenceError` info 1 before
configuration. -/
def configured (s : State) (body : State) : Answer :=
  unlessHalted s (if s.flag .cfgValid then body else raiseErr .sequenceError 1 s)

/-- An illegal command word (rule R74): `IllegalCommand` with its info, nothing else. -/
def rejectWord (info : BitVec 8) (s : State) : Answer :=
  unlessHalted s (raiseErr .illegalCommand info s)

/-- `SV <- v` for a sequence of `B` values, and `FLAG.SV_VALID <- 1` (rules R16, R31). -/
def State.writeSv (s : State) (v : BandVector) : State := { s with sv := v.map some }.setFlag .svValid

/-- `FLAG.SV_VALID <- 0`: "`SV` holds no value" (rule R203), so its elements are as unwritten (log 6). -/
def State.invalidateSv (s : State) : State :=
  { s with sv := List.replicate s.sv.length none }.clearFlag .svValid

/-- The detection results of a success, and `FLAG.SYNCED <- 1` (rule R176). -/
def State.setSync (s : State) (offset : Nat) (peak : Rat) (dataStart : Nat) : State :=
  { s with sync := ⟨offset, peak, dataStart⟩ }.setFlag .synced

/-- The three detection registers to 0, and `FLAG.SYNCED <- 0` (rules R41, R176). -/
def State.clearSync (s : State) : State := { s with sync := ⟨0, 0, 0⟩ }.clearFlag .synced

/-- `TPL` written with the template, and `FLAG.TPL_VALID <- 1` (rule R169). -/
def State.writeTpl (s : State) (x : List Sample) : State := { s with tpl := x }.setFlag .tplValid

end Sys2Proof.Machine
end

