-- ==== Sys2Proof/Machine/Operands.lean ====
section
/-! DEFINITION. The operand forms: capacities (rule R9), reading the `SV` file (rule R31), range checks that
report the least failing index, and the register space as the host port reads and writes it (rules R21,
R59). -/

namespace Sys2Proof.Machine

/-- n elements fit a capacity; ∞ never overflows (rule R9). -/
def fits (n : Nat) : Capacity → Bool
  | none => true
  | some c => decide (n ≤ c)

/-- The elements of `SV` when every one is written. -/
def writtenElements : List (Option Nat) → Option BandVector
  | [] => some []
  | none :: _ => none
  | some d :: rest => (writtenElements rest).map (d :: ·)

/-- The vector `SV` holds: "a value only while `FLAG.SV_VALID = 1`" (rule R31). -/
def State.svValue (s : State) : Option BandVector :=
  if s.flag .svValid then writtenElements s.sv else none

/-- The least index whose element is not below the bound (rules R115, R131, R143). -/
def firstNotBelow (bound : Nat) (xs : List Nat) : Option Nat :=
  xs.findIdx? fun x => decide (bound ≤ x)

/-- The natural a rational is, for a register of domain ℕ (rule R22). -/
def natOf (v : Rat) : Option Nat := if v.den = 1 ∧ 0 ≤ v.num then some v.num.toNat else none

/-- The value of a register of the space of rule R59; a reserved number reads 0. -/
def State.readReg (s : State) (no : Nat) : Rat :=
  match no with
  | 0 => s.cfg.sampleRate
  | 1 => s.cfg.symbolDuration
  | 2 => s.cfg.bandLow
  | 3 => s.cfg.bandHigh
  | 4 => (s.cfg.bandCount : Rat)
  | 5 => s.cfg.step
  | 6 => s.cfg.preDuration
  | 7 => s.cfg.preStartFreq
  | 8 => s.cfg.preEndFreq
  | 9 => s.cfg.guardDuration
  | 10 => (s.cfg.lengthFieldBits : Rat)
  | 11 => s.cfg.syncThreshold
  | 12 => (s.arg0 : Rat)
  | 16 => s.geo.bandWidth
  | 17 => (s.geo.statesPerBand : Rat)
  | 18 => (s.geo.alphabetSize : Rat)
  | 19 => (s.geo.bitsPerSymbol : Rat)
  | 20 => (s.geo.nSymbol : Rat)
  | 21 => (s.geo.lPreamble : Rat)
  | 22 => (s.geo.gGuard : Rat)
  | 23 => s.geo.chirpRate
  | 24 => (s.sync.offset : Rat)
  | 25 => s.sync.peak
  | 26 => (s.sync.dataStart : Rat)
  | 32 => (s.status.toNat : Rat)
  | 33 => (s.result.toNat : Rat)
  | 34 => (s.errlog.toNat : Rat)
  | 35 => (s.errinfo.toNat : Rat)
  | 36 => (s.cmd.toNat : Rat)
  | _ => 0

/-- The configuration registers after a host write of one of them; a value outside the register's domain is ignored
(rules R22, R23, R63). -/
def ConfigRegs.write (c : ConfigRegs) (no : Nat) (v : Rat) : ConfigRegs :=
  match no with
  | 0 => { c with sampleRate := v }
  | 1 => { c with symbolDuration := v }
  | 2 => { c with bandLow := v }
  | 3 => { c with bandHigh := v }
  | 4 => { c with bandCount := (natOf v).getD c.bandCount }
  | 5 => { c with step := v }
  | 6 => { c with preDuration := v }
  | 7 => { c with preStartFreq := v }
  | 8 => { c with preEndFreq := v }
  | 9 => { c with guardDuration := v }
  | 10 => { c with lengthFieldBits := (natOf v).getD c.lengthFieldBits }
  | 11 => { c with syncThreshold := v }
  | _ => c

/-- A host write of a register that holds a value, by its class (rule R21): `RW-cfg` 0 to 11 only in mode UNCONFIGURED
(rule R24), `RW` 12 while not HALTED (rule R26); `RO` and reserved numbers ignore it. Number 36 is
the command port and not written here. -/
def State.writeReg (s : State) (no : Nat) (v : Rat) : State :=
  if s.flag .halted then s
  else if no = 12 then { s with arg0 := (natOf v).getD s.arg0 }
  else if s.flag .cfgValid then s
  else { s with cfg := s.cfg.write no v }

/-- The buffer an id names; "id 6 and above are reserved and name nothing" (rule R38). -/
def bufferOf : Nat → Option Buffer
  | 0 => some .payload
  | 1 => some .fbits
  | 2 => some .syms
  | 3 => some .tpl
  | 4 => some .txs
  | 5 => some .rxs
  | _ => none

/-- The whole content of a buffer (rules R16, R63). -/
def State.readBuffer (s : State) : Buffer → BufData
  | .payload => .bits s.payload
  | .fbits => .bits s.fbits
  | .syms => .symbols s.syms
  | .tpl => .samples s.tpl
  | .txs => .samples s.txs
  | .rxs => .samples s.rxs

/-- `HostLoad(buf, d)` while not HALTED (rule R63): ignored for `TPL` (rule R40), when longer than the capacity
(rule R9), and when the data is not of the buffer's type, which "is not possible" at the typed port (rule R39, log 8);
a load of `RXS` also clears the synchronisation (rule R41). -/
def State.loadBuffer (s : State) (buf : Buffer) (d : BufData) : State :=
  match buf, d with
  | .payload, .bits b => if fits b.length s.caps.bits then { s with payload := b } else s
  | .fbits, .bits b => if fits b.length s.caps.bits then { s with fbits := b } else s
  | .syms, .symbols x => if fits x.length s.caps.syms then { s with syms := x } else s
  | .txs, .samples x => if fits x.length s.caps.samples then { s with txs := x } else s
  | .rxs, .samples x => if fits x.length s.caps.samples then { s with rxs := x }.clearSync else s
  | _, _ => s

end Sys2Proof.Machine
end

