-- ==== Sys2Proof/Machine/Chirp.lean ====
section
/-! DEFINITION. The Chirp Preamble Codec: generation (rules R166, R167), detection (rules R173, R175, R177) and the
commands `CHIRP`, `TXPRE`, `DETECT` (rules R169, R171, R176, R178). -/

namespace Sys2Proof.Machine

/-- `turns(n)`, the chirp's phase at sample n (rule R166). -/
def chirpTurns (c : ConfigRegs) (g : Geometry) (n : Nat) : Rat :=
  g.chirpRate / 2 * ((n : Rat) / c.sampleRate) ^ 2 + c.preStartFreq * ((n : Rat) / c.sampleRate)

/-- `chirp()` (rule R167). -/
def chirp (num : Numerics) (c : ConfigRegs) (g : Geometry) : List Sample :=
  (List.range g.lPreamble).map fun n => num.q (clip (num.sinturn (chirpTurns c g n)))

/-- `corr(k)` (rule R175): raw, signed, the template not reversed. -/
def corr (rx tpl : List Sample) (k : Nat) : Rat := (List.zipWith (· * ·) tpl (rx.drop k)).sum

/-- The candidate offsets with their correlations, in increasing order (rule R173): the whole template inside the
capture. -/
def candidates (rx tpl : List Sample) : List (Nat × Rat) :=
  (List.range (rx.length + 1 - tpl.length)).map fun k => (k, corr rx tpl k)

/-- Why no preamble is found (rule R177). -/
inductive SyncCause where
  /-- The capture is shorter than the template. -/
  | tooShort
  /-- The peak is below the threshold. -/
  | belowThreshold
deriving DecidableEq, Repr

/-- The `ERRINFO.INFO` number of a cause (rule R197). -/
def SyncCause.info : SyncCause → BitVec 8
  | .tooShort => 1
  | .belowThreshold => 2

/-- `detect(rx, tpl, thr)` (rule R177): the earliest offset of the greatest signed correlation, with that value. -/
def detect (rx tpl : List Sample) (thr : Rat) : Except SyncCause (Nat × Rat) :=
  match earliestMax (candidates rx tpl) with
  | none => .error .tooShort
  | some p => if p.2 < thr then .error .belowThreshold else .ok p

/-- `CHIRP` (rule R169). -/
def execChirp (s : State) : Answer :=
  configured s
    (if fits s.geo.lPreamble s.caps.samples = false then raiseErr .operandError 3 s
    else succeed (s.writeTpl (chirp Config.num s.cfg s.geo)))

/-- `TXPRE` (rules R170, R171). -/
def execTxpre (s : State) : Answer :=
  configured s
    (if s.flag .tplValid = false then raiseErr .sequenceError 4 s
    else if fits (s.geo.lPreamble + s.geo.gGuard) s.caps.samples = false then raiseErr .operandError 3 s
    else succeed { s with txs := s.tpl ++ silence s.geo.gGuard })

/-- `DETECT` (rules R176, R178). -/
def execDetect (s : State) : Answer :=
  configured s
    (if s.flag .tplValid = false then raiseErr .sequenceError 4 s
    else
      match detect s.rxs s.tpl s.cfg.syncThreshold with
      | .ok p => succeed (s.setSync p.1 p.2 (p.1 + s.geo.lPreamble + s.geo.gGuard))
      | .error e => raiseErr .syncError e.info s.clearSync)

end Sys2Proof.Machine
end

