-- ==== Sys2Proof/Machine/Packer.lean ====
section
/-! DEFINITION. The Bit/Symbol Packer and the frame (rules R106, R107, R110, R111) and the commands `FRAME`, `PACK`,
`UNPACK`, `DEFRAME` (rules R112, R114 to R116). -/

namespace Sys2Proof.Machine

/-- Why a received frame or vector fails (rule R197, code 3). -/
inductive DecodeCause where
  /-- The reconstructed symbol is 2^w or more. -/
  | alphabet
  /-- The length implies more bits than were received. -/
  | length
  /-- A band has no bin. -/
  | emptyBand
  /-- The peak's step index is `S` or more. -/
  | stepIndex
deriving DecidableEq, Repr

/-- The `ERRINFO.INFO` number of a cause (rule R197). -/
def DecodeCause.info : DecodeCause → BitVec 8
  | .alphabet => 1
  | .length => 2
  | .emptyBand => 3
  | .stepIndex => 4

/-- `pack(bits, w)`, w ≥ 1 (rule R106): the last chunk is padded with zero bits. -/
def pack (bits : List Bit) (w : Nat) : List Nat :=
  (List.range (ceilDiv bits.length w)).map fun k =>
    beValue (slice (bits ++ List.replicate (ceilDiv bits.length w * w - bits.length) false) (k * w) ((k + 1) * w))

/-- `unpack(symbols, w, total_bit_count)` (rule R107): the bits past the count are not examined. -/
def unpack (symbols : List Nat) (w total : Nat) : List Bit :=
  (symbols.flatMap fun x => beBits x w).take total

/-- `frame_bits(payload, lfb)` (rule R110). -/
def frameBits (payload : List Bit) (lfb : Nat) : List Bit := beBits payload.length lfb ++ payload

/-- `parse_frame(fbits, lfb)` (rule R111): both errors are the cause `length`. -/
def parseFrame (fbits : List Bit) (lfb : Nat) : Except DecodeCause (List Bit) :=
  if fbits.length < lfb then .error .length
  else if fbits.length < lfb + beValue (slice fbits 0 lfb) then .error .length
  else .ok (slice fbits lfb (lfb + beValue (slice fbits 0 lfb)))

/-- `FRAME` (rule R112). -/
def execFrame (s : State) : Answer :=
  configured s
    (if 2 ^ s.cfg.lengthFieldBits ≤ s.payload.length then raiseErr .operandError 2 s
    else if fits (s.cfg.lengthFieldBits + s.payload.length) s.caps.bits = false then raiseErr .operandError 3 s
    else succeed { s with fbits := frameBits s.payload s.cfg.lengthFieldBits })

/-- `PACK` (rule R114). -/
def execPack (s : State) : Answer :=
  configured s
    (if fits (ceilDiv s.fbits.length s.geo.bitsPerSymbol) s.caps.syms = false then raiseErr .operandError 3 s
    else succeed { s with syms := pack s.fbits s.geo.bitsPerSymbol })

/-- `UNPACK` (rule R115), `ARG0` being the bit count. -/
def execUnpack (s : State) : Answer :=
  configured s
    (match firstNotBelow (2 ^ s.geo.bitsPerSymbol) s.syms with
    | some k => raiseAt .operandError 2 k s
    | none =>
      if fits s.arg0 s.caps.bits = false then raiseErr .operandError 3 s
      else if s.syms.length * s.geo.bitsPerSymbol < s.arg0 then
        raiseErr .decodeError DecodeCause.length.info { s with fbits := [] }
      else succeed { s with fbits := unpack s.syms s.geo.bitsPerSymbol s.arg0 })

/-- `DEFRAME` (rule R116). -/
def execDeframe (s : State) : Answer :=
  configured s
    (match parseFrame s.fbits s.cfg.lengthFieldBits with
    | .ok p => succeed { s with payload := p }
    | .error e => raiseErr .decodeError e.info { s with payload := [] })

end Sys2Proof.Machine
end

