-- ==== Sys2Proof/Machine/Mapper.lean ====
section
/-! DEFINITION. The Mixed-Radix Band Mapper (rules R126, R127) and the commands `MAP` and `UNMAP` (rules R129, R131). -/

namespace Sys2Proof.Machine

/-- `to_states(symbol, S, B)` (rule R126): band 0 holds the least-significant base-`S` digit. -/
def toStates (symbol statesPerBand bands : Nat) : BandVector :=
  (List.range bands).map fun b => symbol / statesPerBand ^ b % statesPerBand

/-- `from_states(v, S)` (rule R127): the sum of `v[b] · S^b`, in Horner's form. -/
def fromStates (statesPerBand : Nat) : BandVector → Nat
  | [] => 0
  | d :: ds => d + statesPerBand * fromStates statesPerBand ds

/-- `MAP i` (rule R129). -/
def execMap (i : Nat) (s : State) : Answer :=
  configured s
    (match s.syms[i]? with
    | none => raiseAt .operandError 1 i s
    | some symbol =>
      if 2 ^ s.geo.bitsPerSymbol ≤ symbol then raiseAt .operandError 2 i s
      else succeed (s.writeSv (toStates symbol s.geo.statesPerBand s.cfg.bandCount)))

/-- `UNMAP` (rule R131). -/
def execUnmap (s : State) : Answer :=
  configured s
    (match s.svValue with
    | none => raiseErr .sequenceError 3 s
    | some v =>
      match firstNotBelow s.geo.statesPerBand v with
      | some b => raiseAt .operandError 2 b s
      | none =>
        if fits (s.syms.length + 1) s.caps.syms = false then raiseErr .operandError 3 s
        else if 2 ^ s.geo.bitsPerSymbol ≤ fromStates s.geo.statesPerBand v then
          raiseAt .decodeError DecodeCause.alphabet.info s.syms.length s
        else succeed { s with syms := s.syms ++ [fromStates s.geo.statesPerBand v] })

end Sys2Proof.Machine
end

