-- ==== Sys2Proof/Machine/Modulator.lean ====
section
/-! DEFINITION. The Multi-Tone Modulator (rules R82, R141, R142) and the command `MOD` (rule R143). -/

namespace Sys2Proof.Machine

/-- `lo(b)`: the lower edge of band b's domain (rules R82, R152). -/
def bandEdge (c : ConfigRegs) (g : Geometry) (b : Nat) : Rat := c.bandLow + (b : Rat) * g.bandWidth

/-- `f(b, s)`: the tone of band b in state s, Hz (rule R82). -/
def tone (c : ConfigRegs) (g : Geometry) (b state : Nat) : Rat := bandEdge c g b + (state : Rat) * c.step

/-- Sample n of `modulate(v)` (rule R141): the mean of the bands' sines at time n / sr from the window's start,
quantised. -/
def modSample (num : Numerics) (c : ConfigRegs) (g : Geometry) (v : BandVector) (n : Nat) : Sample :=
  num.q (1 / (c.bandCount : Rat) *
    (v.zipIdx.map fun db => num.sinturn (tone c g db.2 db.1 * (n : Rat) / c.sampleRate)).sum)

/-- `modulate(v)` (rule R141): N samples, of the vector alone (rule R142). -/
def modulate (num : Numerics) (c : ConfigRegs) (g : Geometry) (v : BandVector) : List Sample :=
  (List.range g.nSymbol).map (modSample num c g v)

/-- `MOD` (rule R143). -/
def execMod (s : State) : Answer :=
  configured s
    (match s.svValue with
    | none => raiseErr .sequenceError 3 s
    | some v =>
      match firstNotBelow s.geo.statesPerBand v with
      | some b => raiseAt .operandError 2 b s
      | none =>
        if fits (s.txs.length + s.geo.nSymbol) s.caps.samples = false then raiseErr .operandError 3 s
        else succeed { s with txs := s.txs ++ modulate Config.num s.cfg s.geo v })

end Sys2Proof.Machine
end

