-- ==== Sys2Proof/Machine/Demodulator.lean ====
section
/-! DEFINITION. The Multi-Tone Demodulator (rules R151 to R156) and the command `DEMOD` (rule R157). -/

namespace Sys2Proof.Machine

/-- `Σ x[n] · f(k · n / N)` over the window (rule R151). -/
def windowSum (f : Rat → Rat) (n : Nat) (x : List Sample) (k : Nat) : Rat :=
  (x.zipIdx.map fun xi => xi.1 * f ((k : Rat) * (xi.2 : Rat) / (n : Rat))).sum

/-- `P(k)`, the squared magnitude of bin k of the N-point transform (rule R151). -/
def power (num : Numerics) (n : Nat) (x : List Sample) (k : Nat) : Rat :=
  windowSum num.costurn n x k ^ 2 + (-windowSum num.sinturn n x k) ^ 2

/-- The frequency of bin k, Hz (rule R151). -/
def binFreq (c : ConfigRegs) (g : Geometry) (k : Nat) : Rat := (k : Rat) * c.sampleRate / (g.nSymbol : Rat)

/-- `bins(b)`, in increasing order (rule R152): lower edge included, upper edge excluded. -/
def bins (c : ConfigRegs) (g : Geometry) (b : Nat) : List Nat :=
  (List.range (g.nSymbol / 2 + 1)).filter fun k =>
    decide (bandEdge c g b ≤ binFreq c g k ∧ binFreq c g k < bandEdge c g b + g.bandWidth)

/-- `peak(b)` (rule R153): the bin of greatest power, the lowest on ties. -/
def peakBin (num : Numerics) (c : ConfigRegs) (g : Geometry) (x : List Sample) (b : Nat) : Option Nat :=
  (earliestMax ((bins c g b).map fun k => (k, power num g.nSymbol x k))).map Prod.fst

/-- `round_he((peak(b) · sr / N − lo(b)) / step)` (rule R154). -/
def nearestState (c : ConfigRegs) (g : Geometry) (b k : Nat) : Int :=
  roundHE ((binFreq c g k - bandEdge c g b) / c.step)

/-- The state of band b, or why the window cannot be decoded, with the index the rules name (rules R152, R154). -/
def bandState (num : Numerics) (c : ConfigRegs) (g : Geometry) (x : List Sample) (b : Nat) :
    Except (DecodeCause × Nat) Nat :=
  match peakBin num c g x b with
  | none => .error (.emptyBand, b)
  | some k =>
    if (g.statesPerBand : Int) ≤ nearestState c g b k then .error (.stepIndex, b)
    else .ok (nearestState c g b k).toNat

/-- `demodulate(x)` (rule R156): the lowest failing band, then the alphabet check (rule R155). -/
def demodulate (num : Numerics) (c : ConfigRegs) (g : Geometry) (x : List Sample) :
    Except (DecodeCause × Nat) BandVector :=
  match collect (bandState num c g x) (List.range c.bandCount) with
  | .error e => .error e
  | .ok v =>
    if 2 ^ g.bitsPerSymbol ≤ fromStates g.statesPerBand v then .error (.alphabet, 0) else .ok v

/-- Window i of a capture whose data region starts at ds (rules R56, R157, R188). -/
def window (rx : List Sample) (ds n i : Nat) : List Sample := slice rx (ds + i * n) (ds + (i + 1) * n)

/-- `ERRINFO.INDEX` of a failed window i (rules R157, R189): the window for `alphabet`, the band for a band failure,
else 0. -/
def windowErrorIndex (cause : DecodeCause) (i band : Nat) : Nat :=
  match cause with
  | .alphabet => i
  | .length => 0
  | .emptyBand => band
  | .stepIndex => band

/-- `DEMOD i` (rule R157). -/
def execDemod (i : Nat) (s : State) : Answer :=
  configured s
    (if s.flag .synced = false then raiseErr .sequenceError 5 s
    else if s.rxs.length < s.sync.dataStart + (i + 1) * s.geo.nSymbol then raiseAt .operandError 1 i s
    else
      match demodulate Config.num s.cfg s.geo (window s.rxs s.sync.dataStart s.geo.nSymbol i) with
      | .ok v => succeed (s.writeSv v)
      | .error e => raiseAt .decodeError e.1.info (windowErrorIndex e.1 i e.2) s.invalidateSv)

end Sys2Proof.Machine
end

