-- ==== Sys2Proof/Machine/Composite.lean ====
section
/-! DEFINITION. The whole-frame commands `TXFRAME` and `RXFRAME` (rules R186, R189) over the pure functions
`tx_waveform` (rule R187) and `rx_frame` (rule R188). -/

namespace Sys2Proof.Machine

/-- The symbols of a payload's frame (rules R81, R187). -/
def frameSymbols (c : ConfigRegs) (g : Geometry) (payload : List Bit) : List Nat :=
  pack (frameBits payload c.lengthFieldBits) g.bitsPerSymbol

/-- The data region of a frame: one window for each symbol, no gap between (rules R80, R187). -/
def dataRegion (num : Numerics) (c : ConfigRegs) (g : Geometry) (symbols : List Nat) : List Sample :=
  symbols.flatMap fun x => modulate num c g (toStates x g.statesPerBand c.bandCount)

/-- `tx_waveform(payload)` (rules R77 to R80, R187): preamble, guard gap, data region. -/
def txWaveform (num : Numerics) (c : ConfigRegs) (g : Geometry) (payload : List Bit) : List Sample :=
  chirp num c g ++ silence g.gGuard ++ dataRegion num c g (frameSymbols c g payload)

/-- What `rx_frame` answers (rule R188). -/
inductive RxOutcome where
  /-- The first offset, peak and data start, the symbols, frame bits, payload, and the last vector if there is one. -/
  | ok (offset : Nat) (peak : Rat) (dataStart : Nat) (symbols : List Nat) (fbits payload : List Bit)
      (last : Option BandVector)
  /-- No preamble. -/
  | syncError (cause : SyncCause)
  /-- A failed frame after detection at offset, peak and data start, with the index to report. -/
  | decodeError (offset : Nat) (peak : Rat) (dataStart : Nat) (cause : DecodeCause) (index : Nat)
deriving DecidableEq, Repr

/-- Steps 4 and 7 of rule R188: the vectors of the windows first .. first + count − 1, or the first failure with the
index it reports. -/
def demodWindows (num : Numerics) (c : ConfigRegs) (g : Geometry) (rx : List Sample) (ds first count : Nat) :
    Except (DecodeCause × Nat) (List BandVector) :=
  collect
    (fun i =>
      match demodulate num c g (window rx ds g.nSymbol i) with
      | .error e => .error (e.1, windowErrorIndex e.1 i e.2)
      | .ok v => .ok v)
    (List.range' first count)

/-- Steps 6 to 8 of rule R188, the header windows having given the vectors `header`: read the length, then the rest of
the frame. -/
def rxBody (num : Numerics) (c : ConfigRegs) (g : Geometry) (rx : List Sample) (offset : Nat) (peak : Rat) (ds : Nat)
    (header : List BandVector) : RxOutcome :=
  let n := beValue (unpack (header.map (fromStates g.statesPerBand)) g.bitsPerSymbol c.lengthFieldBits)
  let k := ceilDiv (c.lengthFieldBits + n) g.bitsPerSymbol
  if rx.length < ds + k * g.nSymbol then .decodeError offset peak ds .length 0
  else
    match demodWindows num c g rx ds header.length (k - header.length) with
    | .error e => .decodeError offset peak ds e.1 e.2
    | .ok rest =>
      let symbols := (header ++ rest).map (fromStates g.statesPerBand)
      let fbits := unpack symbols g.bitsPerSymbol (c.lengthFieldBits + n)
      .ok offset peak ds symbols fbits (slice fbits c.lengthFieldBits (c.lengthFieldBits + n))
        (header ++ rest).getLast?

/-- `rx_frame(rx)` (rule R188): detection, the header windows, then the body. DESIGN CHOICE (unsafe, log 18): with
`lfb = 0` and a capture that ends before its data start, step 3's check gives `DecodeError` info 2, as rule R188's steps
say, where the corner case of rule R189 says success after any successful detection. -/
def rxFrame (num : Numerics) (c : ConfigRegs) (g : Geometry) (rx : List Sample) : RxOutcome :=
  match detect rx (chirp num c g) c.syncThreshold with
  | .error e => .syncError e
  | .ok p =>
    let ds := p.1 + g.lPreamble + g.gGuard
    let k0 := ceilDiv c.lengthFieldBits g.bitsPerSymbol
    if rx.length < ds + k0 * g.nSymbol then .decodeError p.1 p.2 ds .length 0
    else
      match demodWindows num c g rx ds 0 k0 with
      | .error e => .decodeError p.1 p.2 ds e.1 e.2
      | .ok header => rxBody num c g rx p.1 p.2 ds header

/-- `SV` takes a frame's last vector; with no symbol processed it stays as it was (rules R186, R189). -/
def State.writeLastSv (s : State) : Option BandVector → State
  | none => s
  | some v => s.writeSv v

/-- The three result buffers of `RXFRAME` (rule R189). -/
def State.writeFrame (s : State) (symbols : List Nat) (fbits payload : List Bit) : State :=
  { s with syms := symbols, fbits := fbits, payload := payload }

/-- `TXFRAME` (rule R186), K being the number of symbols. -/
def execTxframe (s : State) : Answer :=
  configured s
    (let bits := s.cfg.lengthFieldBits + s.payload.length
    let k := ceilDiv bits s.geo.bitsPerSymbol
    if 2 ^ s.cfg.lengthFieldBits ≤ s.payload.length then raiseErr .operandError 2 s
    else if fits bits s.caps.bits = false ∨ fits k s.caps.syms = false ∨
        fits (s.geo.lPreamble + s.geo.gGuard + k * s.geo.nSymbol) s.caps.samples = false then
      raiseErr .operandError 3 s
    else
      let symbols := frameSymbols s.cfg s.geo s.payload
      let t := { s with
        fbits := frameBits s.payload s.cfg.lengthFieldBits
        syms := symbols
        txs := txWaveform Config.num s.cfg s.geo s.payload }
      succeed ((t.writeTpl (chirp Config.num s.cfg s.geo)).writeLastSv
        (symbols.getLast?.map fun x => toStates x s.geo.statesPerBand s.cfg.bandCount)))

/-- `RXFRAME` (rule R189): `TPL` is written whatever the capture gives. -/
def execRxframe (s : State) : Answer :=
  configured s
    (let m := s.rxs.length / s.geo.nSymbol
    if fits s.geo.lPreamble s.caps.samples = false ∨ fits m s.caps.syms = false ∨
        fits (m * s.geo.bitsPerSymbol) s.caps.bits = false then
      raiseErr .operandError 3 s
    else
      let t := s.writeTpl (chirp Config.num s.cfg s.geo)
      match rxFrame Config.num s.cfg s.geo s.rxs with
      | .ok k p ds symbols fbits payload last =>
        succeed (((t.setSync k p ds).writeFrame symbols fbits payload).writeLastSv last)
      | .syncError e => raiseErr .syncError e.info (t.clearSync.writeFrame [] [] [])
      | .decodeError k p ds e index =>
        raiseAt .decodeError e.info index (((t.setSync k p ds).writeFrame [] [] []).invalidateSv))

end Sys2Proof.Machine
end

