-- ==== Sys2Proof/Machine/Deriver.lean ====
section
/-! DEFINITION. The Parameter Deriver (rules R92, R94) and the control commands `NOP`, `DERIVE`, `CLRERR`
(rules R91, R93, R95 to R97). -/

namespace Sys2Proof.Machine

/-- Why `derive` fails (rule R94). -/
inductive ConfigCause where
  /-- `1 / SYMBOL_DURATION > STEP`. -/
  | unresolvable
  /-- `S < 2`: no usable alphabet. -/
  | noAlphabet
  /-- A degenerate constant, `N = 0` or `L = 0`. -/
  | degenerate
  /-- `BAND_COUNT > CAP_BANDS`. -/
  | tooManyBands
deriving DecidableEq, Repr

/-- The `ERRINFO.INFO` number of a cause (rule R94). -/
def ConfigCause.info : ConfigCause → BitVec 8
  | .unresolvable => 1
  | .noAlphabet => 2
  | .degenerate => 3
  | .tooManyBands => 4

/-- The samples of a duration, `round_he(sr · d)`, none when that is negative (rules R28, R92). -/
def sampleCount (sampleRate duration : Rat) : Nat := (max 0 (roundHE (sampleRate * duration))).toNat

/-- `band_width` (rule R28). -/
def ConfigRegs.bandWidth (c : ConfigRegs) : Rat := (c.bandHigh - c.bandLow) / (c.bandCount : Rat)

/-- `floor(band_width / step)`, "an integer, may be ≤ 0" (rule R92 step 4). -/
def ConfigRegs.statesPerBand (c : ConfigRegs) : Int := (c.bandWidth / c.step).floor

/-- The geometry of step 6 of rule R92. -/
def ConfigRegs.geometry (c : ConfigRegs) : Geometry where
  bandWidth := c.bandWidth
  statesPerBand := c.statesPerBand.toNat
  alphabetSize := c.statesPerBand.toNat ^ c.bandCount
  bitsPerSymbol := ilog2 (c.statesPerBand.toNat ^ c.bandCount)
  nSymbol := sampleCount c.sampleRate c.symbolDuration
  lPreamble := sampleCount c.sampleRate c.preDuration
  gGuard := sampleCount c.sampleRate c.guardDuration
  chirpRate := (c.preEndFreq - c.preStartFreq) / c.preDuration

/-- `derive(cfg)`, its six steps in order, the first error deciding (rule R92). -/
def derive (c : ConfigRegs) (capBands : Capacity) : Except ConfigCause Geometry :=
  if c.sampleRate ≤ 0 ∨ c.symbolDuration ≤ 0 ∨ c.bandCount = 0 ∨ c.step ≤ 0 ∨ c.preDuration ≤ 0 then
    .error .degenerate
  else if sampleCount c.sampleRate c.symbolDuration = 0 ∨ sampleCount c.sampleRate c.preDuration = 0 then
    .error .degenerate
  else if c.step < 1 / c.symbolDuration then .error .unresolvable
  else if c.statesPerBand < 2 then .error .noAlphabet
  else if fits c.bandCount capBands = false then .error .tooManyBands
  else .ok c.geometry

/-- `NOP` (rule R91). -/
def execNop (s : State) : Answer := unlessHalted s (succeed s)

/-- `DERIVE` (rules R93, R95, R96). On success `SV` gets `B` elements, all unwritten. -/
def execDerive (s : State) : Answer :=
  unlessHalted s
    (if s.flag .cfgValid then raiseErr .sequenceError 2 s
    else
      match derive s.cfg s.caps.bands with
      | .ok g =>
        succeed ({ s with geo := g, sv := List.replicate s.cfg.bandCount none }.setFlag .cfgValid)
      | .error e => raiseErr .configError e.info s)

/-- `CLRERR` (rule R97): `STATUS` is unchanged. -/
def execClrerr (s : State) : Answer :=
  unlessHalted s (succeed { s with errlog := 0, errinfo := 0 })

end Sys2Proof.Machine
end

