-- ==== Sys2Proof/Machine/Dispatch.lean ====
section
/-! DEFINITION. One arm per command (rule R72), each a direct call of that command's meaning. -/

namespace Sys2Proof.Machine

def exec (i : Instr) (s : State) : Host.Outcome State Fault Refusal :=
  match i with
  | .nop => Sys2Proof.Machine.execNop s
  | .derive => Sys2Proof.Machine.execDerive s
  | .clrerr => Sys2Proof.Machine.execClrerr s
  | .frame => Sys2Proof.Machine.execFrame s
  | .pack => Sys2Proof.Machine.execPack s
  | .unpack => Sys2Proof.Machine.execUnpack s
  | .deframe => Sys2Proof.Machine.execDeframe s
  | .map k => Sys2Proof.Machine.execMap k s
  | .unmap => Sys2Proof.Machine.execUnmap s
  | .mod => Sys2Proof.Machine.execMod s
  | .demod k => Sys2Proof.Machine.execDemod k s
  | .chirp => Sys2Proof.Machine.execChirp s
  | .txpre => Sys2Proof.Machine.execTxpre s
  | .detect => Sys2Proof.Machine.execDetect s
  | .txframe => Sys2Proof.Machine.execTxframe s
  | .rxframe => Sys2Proof.Machine.execRxframe s

end Sys2Proof.Machine
end

