-- ==== Sys2Proof/Machine/Port.lean ====
section
/-! DEFINITION. The host port: what each of the host's moves does (rules R59, R63, R71, R220). -/

namespace Sys2Proof.Machine

/-- `HostIssue(c)` (rules R63, R71): in mode HALTED the word is ignored and not kept (rule R59); otherwise `CMD <- c`,
and the command the word selects runs, or the reserved word raises `IllegalCommand` (rule R74). -/
def issueWord (c : Word) (s : State) : Answer :=
  if s.flag .halted then .next s
  else
    match decode c with
    | .ok i => exec i { s with cmd := c }
    | .error .undefinedOpcode => rejectWord 1 { s with cmd := c }
    | .error .nonZeroImmediate => rejectWord 2 { s with cmd := c }

/-- The value a host write of register 36 carries, when it is a 32-bit word (rule R59). -/
def wordOf (v : Rat) : Option Word :=
  match natOf v with
  | some n => if n < 2 ^ 32 then some (BitVec.ofNat 32 n) else none
  | none => none

/-- `HostWriteReg(no, v)` (rule R63); number 36 is the command port (rule R59, log 9). -/
def hostWriteReg (no : Nat) (v : Rat) (s : State) : Answer :=
  if no = 36 then
    match wordOf v with
    | some c => issueWord c s
    | none => .next s
  else .next (s.writeReg no v)

/-- `HostWriteSV(v)` (rule R32): only in mode READY, only exactly `B` elements, their values not checked. -/
def hostWriteSv (v : BandVector) (s : State) : State :=
  if s.flag .halted = false ∧ s.flag .cfgValid = true ∧ v.length = s.cfg.bandCount then s.writeSv v else s

/-- `HostLoad(buf, d)` (rule R63): ignored in mode HALTED. -/
def hostLoad (buf : Buffer) (d : BufData) (s : State) : State :=
  if s.flag .halted then s else s.loadBuffer buf d

/-- `HostReset()` (rules R220, R221), in every mode. The model's own fields are not the block's state (log 17). -/
def hostReset (s : State) : State := State.resetWith s.caps s.pending s.answer

/-- One host move (rule R63). A read changes no state of the block (rule R21): it leaves what it returns in
`answer`. -/
def hostMove (m : HostMove) (s : State) : Answer :=
  match m with
  | .writeReg no v => hostWriteReg no v s
  | .readReg no => .next { s with answer := some (.reg (s.readReg no)) }
  | .writeSv v => .next (hostWriteSv v s)
  | .readSv => .next { s with answer := some (.sv s.sv (s.flag .svValid)) }
  | .load buf d => .next (hostLoad buf d s)
  | .read buf => .next { s with answer := some (.buffer (s.readBuffer buf)) }
  | .issue c => issueWord c s
  | .reset => .next (hostReset s)

/-- The next point of the total order of host moves (rule R60): the oldest move still to come. With none left the block
is idle and keeps all state (rule R214, log 2). -/
def nextMove (s : State) : Answer :=
  match s.pending with
  | [] => .next s
  | m :: rest => hostMove m { s with pending := rest }

/-- The block with one more host move before all others. -/
def State.withMove (s : State) (m : HostMove) : State := { s with pending := m :: s.pending }

/-- The word whose `nbits` low bits are those of w and whose other bits are 0. -/
def tableWord (nbits w : Nat) : Word := BitVec.ofNat 32 (w % 2 ^ nbits)

end Sys2Proof.Machine
end

