-- ==== Sys2Proof/Machine/Step.lean ====
section
/-! DEFINITION. One step: the host's next move (rule R60). A command is one whole step (rule R58). -/

namespace Sys2Proof.Machine

/-- One step of the machine. -/
def step (s : State) : Host.Outcome State Fault Refusal := nextMove s

/-- `s` where the host's very next move issues the word (log 1): the block fetches nothing (rule R62), a command word is
consumed when it is written to `CMD`. -/
def State.withFetchWord (s : State) (nbits w : Nat) : State := s.withMove (.issue (tableWord nbits w))

end Sys2Proof.Machine
end

