-- ==== Sys2Proof/Safety.lean ====
section
/-! DEFINITION. The terms claims are made in: what a recorded failure looks like (rule R205), the invariant of the
machine, a run of commands, a run that went well (rule R236) and the duties the host owes (rule R231). -/

namespace Sys2Proof.Safety

open Sys2Proof.Machine

/-- A state that records a failure with a result code, a detail number and an index and is otherwise `s`
(rules R35 to R37, R205), written from the registers' layout and not from the operation the meanings use. -/
def failed (s : State) (code info index : Nat) : State :=
  { s with
    result := BitVec.ofNat 32 code
    errlog := s.errlog ||| BitVec.ofNat 32 (2 ^ code)
    errinfo := BitVec.ofNat 32 (index % 2 ^ 24 * 2 ^ 8 + info) }

/-- `STATUS` and the result registers hold nothing the spec calls reserved, and the two mode bits make a mode
(rules R34 to R36, R199, R212). -/
structure RegistersLegal (s : State) : Prop where
  /-- Bits 31:5 of `STATUS` are 0 (rule R34). -/
  statusReserved : ∀ k, 5 ≤ k → s.status.getLsbD k = false
  /-- "`CFG_VALID = 1` with `HALTED = 1` never occurs" (rule R212). -/
  oneMode : s.flag .cfgValid = true → s.flag .halted = false
  /-- `RESULT` holds a code of rule R196 other than `DeviceError` (rules R35, R199). -/
  resultCode : s.result.toNat ≤ 7 ∧ s.result.toNat ≠ 4
  /-- `ERRLOG` has only the bits of the codes 1, 2, 3, 5, 6, 7 (rules R36, R199). -/
  errlogReserved : ∀ k, s.errlog.getLsbD k = true → 1 ≤ k ∧ k ≤ 7 ∧ k ≠ 4

/-- The geometry matches the configuration, and before configuration there is none and no flag that depends on it
(rules R29, R31, R43, R226). -/
structure GeometryMatches (s : State) : Prop where
  /-- Nothing is derived before `DERIVE` succeeds (rules R29, R43). -/
  unconfigured : s.flag .cfgValid = false →
    s.geo = ⟨0, 0, 0, 0, 0, 0, 0, 0⟩ ∧ s.sv = [] ∧ s.flag .tplValid = false ∧ s.flag .svValid = false ∧
      s.flag .synced = false
  /-- "No command ever runs with geometry that does not match the registers" (rule R226); `SV` has `B` elements
  (rule R31). -/
  configured : s.flag .cfgValid = true →
    derive s.cfg s.caps.bands = .ok s.geo ∧ s.sv.length = s.cfg.bandCount

/-- What the flags promise of the data they stand for (rules R30, R31, R40, R178). -/
structure DataMatchesFlags (s : State) : Prop where
  /-- "While `FLAG.TPL_VALID = 1` it is exactly `chirp()`" (rule R40), and it is empty before (rule R43). -/
  template : s.tpl = if s.flag .tplValid then chirp Config.num s.cfg s.geo else []
  /-- `SV` holds a value exactly while `FLAG.SV_VALID = 1` (rule R31). -/
  vector : if s.flag .svValid then ∃ v : BandVector, s.sv = v.map some
    else s.sv = List.replicate s.sv.length none
  /-- While `FLAG.SYNCED = 1` the registers 24 to 26 are the detection of the capture in `RXS` with the template in
  `TPL` (rules R30, R41, R178); otherwise they are 0. -/
  synchronised : if s.flag .synced then
      s.flag .tplValid = true ∧ detect s.rxs s.tpl s.cfg.syncThreshold = .ok (s.sync.offset, s.sync.peak) ∧
        s.sync.dataStart = s.sync.offset + s.geo.lPreamble + s.geo.gGuard
    else s.sync = ⟨0, 0, 0⟩

/-- No buffer holds more than its capacity (rules R9, R38). -/
structure WithinCapacities (s : State) : Prop where
  payload : fits s.payload.length s.caps.bits = true
  fbits : fits s.fbits.length s.caps.bits = true
  syms : fits s.syms.length s.caps.syms = true
  tpl : fits s.tpl.length s.caps.samples = true
  txs : fits s.txs.length s.caps.samples = true
  rxs : fits s.rxs.length s.caps.samples = true

/-- The invariant of the machine. -/
structure Inv (s : State) : Prop where
  registers : RegistersLegal s
  geometry : GeometryMatches s
  data : DataMatchesFlags s
  capacities : WithinCapacities s

/-- Commands run one after the other, each whatever the result of the one before (rules R60, R206). -/
def runCommands : List Instr → State → Answer
  | [], s => .next s
  | i :: is, s =>
    match exec i s with
    | .next t => runCommands is t
    | .fault r => .fault r
    | .refused r => .refused r

/-- A run whose last state this is went well: `ERRLOG = 0` and not HALTED (rule R236). -/
def Clean (s : State) : Prop := s.errlog = 0 ∧ s.flag .halted = false

/-- "Each tone's nearest bin rounds back to its own state" (rule R231 (g)), what rule R158 expects of a geometry: every
bin from 0 to N/2 at least as near to the tone as any other has the tone's state as its nearest. -/
def TonesRoundBack (c : ConfigRegs) (g : Geometry) : Prop :=
  ∀ b state k, b < c.bandCount → state < g.statesPerBand → k ≤ g.nSymbol / 2 →
    (∀ j, j ≤ g.nSymbol / 2 → |binFreq c g k - tone c g b state| ≤ |binFreq c g j - tone c g b state|) →
    nearestState c g b k = (state : Int)

/-- The template's energy (rules R179, R231). -/
def energy (template : List Sample) : Rat := (template.map fun x => x ^ 2).sum

/-- The duties of rule R231 on the values `derive` does not check. -/
structure HostDuties (num : Numerics) (c : ConfigRegs) (g : Geometry) : Prop where
  /-- (a), the bands: no tone above half the sample rate. -/
  bandsBelowNyquist : c.bandHigh ≤ c.sampleRate / 2
  /-- (a), the chirp: its frequencies in [0, sr / 2]. -/
  chirpBelowNyquist : (0 ≤ c.preStartFreq ∧ c.preStartFreq ≤ c.sampleRate / 2) ∧
    (0 ≤ c.preEndFreq ∧ c.preEndFreq ≤ c.sampleRate / 2)
  /-- (b). -/
  bandLowNonnegative : 0 ≤ c.bandLow
  /-- (c): a positive threshold, at most the template's energy. -/
  threshold : 0 < c.syncThreshold ∧ c.syncThreshold ≤ energy (chirp num c g)
  /-- (d). -/
  lengthField : 1 ≤ c.lengthFieldBits
  /-- (e): at no offset does the template correlate with a transmission more than with itself. -/
  templateStandsOut : ∀ (payload : List Bit) (k : Nat), payload.length < 2 ^ c.lengthFieldBits →
    k + g.lPreamble ≤ (txWaveform num c g payload).length →
    corr (txWaveform num c g payload) (chirp num c g) k ≤ energy (chirp num c g)
  /-- (f): a margin above the frequency resolution; `derive` accepts equality (rule R158). -/
  resolutionMargin : 1 / c.symbolDuration < c.step
  /-- (g). -/
  tonesRoundBack : TonesRoundBack c g

end Sys2Proof.Safety
end

