-- ==== Sys2Proof/Certificates/Slice0/Obligations.lean ====
section
/-! DEFINITION. The statements for the provers, each from a numbered rule of the spec. -/

open Sys2Proof Sys2Proof.Machine Sys2Proof.Safety

/-! ## The command word -/

/-- Rules R70, R72, R73: decoding the word of a command a word can hold gives that command back. -/
def Obligations.DecodeInvertsEncode : Prop :=
  ∀ i : Instr, i.wellFormed = true → decode (encode i) = .ok i

/-- Rules R70, R72, R73: a word that decodes is the word of what it decodes to, so no two words name one command and no bit
is dropped. -/
def Obligations.EncodeInvertsDecode : Prop :=
  ∀ (c : Word) (i : Instr), decode c = .ok i → encode i = c ∧ i.wellFormed = true

/-- Rule R74: exactly the opcodes outside the table are undefined, exactly the fourteen commands with no operand reject a
non-zero `imm`, and both raise `IllegalCommand` and change no other state but `CMD`, which this statement leaves
open: that the port keeps the word there (rule R59, the model's reading, log 10) is
`ReservedRegistersAndTheCommandPort`. -/
def Obligations.ReservedWordsRaiseIllegalCommand : Prop :=
  ∀ c : Word,
    (decode c = .error .undefinedOpcode ↔
      c.toNat / 2 ^ 24 ∉ [0x00, 0x01, 0x02, 0x10, 0x11, 0x12, 0x13, 0x20, 0x21, 0x30, 0x31, 0x40, 0x41, 0x42,
        0x50, 0x51]) ∧
    (decode c = .error .nonZeroImmediate ↔
      c.toNat / 2 ^ 24 ∈ [0x00, 0x01, 0x02, 0x10, 0x11, 0x12, 0x13, 0x21, 0x30, 0x40, 0x41, 0x42, 0x50, 0x51] ∧
        c.toNat % 2 ^ 24 ≠ 0) ∧
    ∀ (s : State) (rest : List HostMove), s.pending = .issue c :: rest → s.flag .halted = false →
      (decode c = .error .undefinedOpcode →
        ∃ t, step s = .next t ∧ t = failed { s with pending := rest, cmd := t.cmd } 6 1 0) ∧
      (decode c = .error .nonZeroImmediate →
        ∃ t, step s = .next t ∧ t = failed { s with pending := rest, cmd := t.cmd } 6 2 0)

/-- Rules R72, R73: words written out from the table decode to their commands. -/
def Obligations.TableWordsDecode : Prop :=
  decode 0x00000000#32 = .ok .nop ∧ decode 0x01000000#32 = .ok .derive ∧ decode 0x13000000#32 = .ok .deframe ∧
    decode 0x20000004#32 = .ok (.map 4) ∧ decode 0x20FFFFFF#32 = .ok (.map 16777215) ∧
    decode 0x30000000#32 = .ok .mod ∧ decode 0x31000010#32 = .ok (.demod 16) ∧
    decode 0x42000000#32 = .ok .detect ∧ decode 0x51000000#32 = .ok .rxframe

/-! ## Steps, modes and the invariant -/

/-- Rules R60, R63, R71: a step whose next host move issues a word that decodes runs exactly that command, the move taken
off (the host's moves as data are the model's own, log 1) and the word kept in `CMD`. -/
def Obligations.StepRunsTheIssuedCommand : Prop :=
  ∀ (s : State) (c : Word) (rest : List HostMove) (i : Instr),
    s.pending = .issue c :: rest → s.flag .halted = false → decode c = .ok i →
      step s = exec i { s with pending := rest, cmd := c }

/-- Rules R63, R71, R212: in mode HALTED every write move and every command word is ignored whole: only the move itself
is gone. `exec` there changes nothing at all (log 7: each meaning checks the mode itself). -/
def Obligations.HaltedIgnoresEveryWriteAndCommand : Prop :=
  (∀ (s : State) (m : HostMove) (rest : List HostMove), s.pending = m :: rest → s.flag .halted = true →
    (match m with
      | .writeReg _ _ | .writeSv _ | .load _ _ | .issue _ => True
      | .readReg _ | .readSv | .read _ | .reset => False) →
    step s = .next { s with pending := rest }) ∧
  ∀ (i : Instr) (s : State), s.flag .halted = true → exec i s = .next s

/-- Rules R195, R205, R206: no command and no step stops the block: each answers a next state; with no host move left (the
model's own convention, log 2) the block keeps all state (rule R214). -/
def Obligations.EveryStepAnswersANextState : Prop :=
  (∀ (i : Instr) (s : State), ∃ t, exec i s = .next t) ∧ (∀ s : State, ∃ t, step s = .next t) ∧
    ∀ s : State, s.pending = [] → step s = .next s

/-- Rules R43, R220: `HostReset`, in every mode, puts every piece of the block's state at its reset value. -/
def Obligations.HostResetRestoresResetValues : Prop :=
  ∀ (s : State) (rest : List HostMove), s.pending = .reset :: rest →
    ∃ t, step s = .next t ∧ t.cfg = ⟨0, 0, 0, 0, 0, 0, 0, 0, 0, 0, 0, 0⟩ ∧ t.arg0 = 0 ∧
      t.geo = ⟨0, 0, 0, 0, 0, 0, 0, 0⟩ ∧ t.sync = ⟨0, 0, 0⟩ ∧ t.sv = [] ∧ t.status = 0 ∧ t.result = 0 ∧
      t.errlog = 0 ∧ t.errinfo = 0 ∧ t.cmd = 0 ∧ t.payload = [] ∧ t.fbits = [] ∧ t.syms = [] ∧ t.tpl = [] ∧
      t.txs = [] ∧ t.rxs = []

/-- Rule R43: the invariant holds right after reset, whatever the capacities. -/
def Obligations.InvariantHoldsAtReset : Prop :=
  (∀ (caps : Caps) (pending : List HostMove) (answer : Option HostAnswer),
    Inv (State.resetWith caps pending answer)) ∧
  Inv State.reset

/-- Rules R9, R29 to R31, R34 to R36, R40, R41, R178, R199, R212, R226: every step keeps the invariant (its clause on the
elements of `SV` without a value is the model's reading, log 6). -/
def Obligations.EveryStepKeepsTheInvariant : Prop :=
  ∀ s t : State, Inv s → step s = .next t → Inv t

/-- Rule R213: the mode changes only by reset, by a `DERIVE` that succeeds and by a `DERIVE` that raises
`ConfigError`. -/
def Obligations.ModeChangesOnlyByDeriveAndReset : Prop :=
  (∀ (s t : State) (rest : List HostMove), s.pending = .reset :: rest → step s = .next t →
    t.mode = .unconfigured) ∧
  (∀ s t : State, s.mode = .unconfigured → exec .derive s = .next t →
    (t.result = 0 → t.mode = .ready) ∧ (t.result ≠ 0 → t.mode = .halted)) ∧
  ∀ s t : State, step s = .next t → t.mode ≠ s.mode →
    (∃ rest, s.pending = .reset :: rest) ∨
      (s.mode = .unconfigured ∧ t.cmd = 0x01000000#32 ∧
        (t.mode = .ready ∧ t.result = 0 ∨ t.mode = .halted ∧ t.result = 1))

/-- Rule R24: a successful `DERIVE` sets `CFG_VALID`, and until reset no step changes a configuration register (nor,
by rule R95, the geometry). -/
def Obligations.ConfigurationIsLocked : Prop :=
  (∀ s t : State, s.flag .halted = false → exec .derive s = .next t → t.result = 0 →
    t.flag .cfgValid = true) ∧
  ∀ s t : State, s.flag .cfgValid = true → (∀ rest, s.pending ≠ .reset :: rest) → step s = .next t →
    t.flag .cfgValid = true ∧ t.cfg = s.cfg ∧ t.geo = s.geo

/-! ## What failures record and change -/

/-- Rules R35 to R37, R195, R199: a command that is not ignored ends with one code, never `DeviceError`; a failure sets its
`ERRLOG` bit and no other; a success other than `CLRERR` leaves `ERRLOG` and `ERRINFO` alone. -/
def Obligations.EveryCommandRecordsOneResult : Prop :=
  ∀ (i : Instr) (s t : State), s.flag .halted = false → exec i s = .next t →
    (t.result.toNat ≤ 7 ∧ t.result.toNat ≠ 4) ∧
    (t.result ≠ 0 → t.errlog = s.errlog ||| BitVec.ofNat 32 (2 ^ t.result.toNat)) ∧
    (t.result = 0 → i ≠ .clrerr → t.errlog = s.errlog ∧ t.errinfo = s.errinfo)

/-- Rule R203: a refusal changes only the three result registers, and each operation error changes besides them exactly what
the rule's table says (that the elements of an `SV` that "holds no value" are unwritten is the model's reading, log 6). -/
def Obligations.FailuresChangeOnlyWhatTheRuleNames : Prop :=
  ∀ (i : Instr) (s t : State), s.flag .halted = false → exec i s = .next t →
    let r := { s with result := t.result, errlog := t.errlog, errinfo := t.errinfo }
    (t.result ∈ [5#32, 6#32, 7#32] → t = r) ∧
    (t.result = 1 → i = .derive ∧ t = { r with status := s.status ||| 0x02#32 }) ∧
    (t.result = 2 →
      (i = .detect ∧ t = { r with status := s.status &&& ~~~0x10#32, sync := ⟨0, 0, 0⟩ }) ∨
      (i = .rxframe ∧
        t = { r with
          status := (s.status ||| 0x04#32) &&& ~~~0x10#32, sync := ⟨0, 0, 0⟩,
          tpl := chirp Config.num s.cfg s.geo, syms := [], fbits := [], payload := [] })) ∧
    (t.result = 3 →
      (i = .unpack ∧ t = { r with fbits := [] }) ∨ (i = .deframe ∧ t = { r with payload := [] }) ∨
      (i = .unmap ∧ t = r) ∨
      ((∃ k, i = .demod k) ∧
        t = { r with status := s.status &&& ~~~0x08#32, sv := s.sv.map fun _ => none }) ∨
      (i = .rxframe ∧ ∃ k p, detect s.rxs (chirp Config.num s.cfg s.geo) s.cfg.syncThreshold = .ok (k, p) ∧
        t = { r with
          status := ((s.status ||| 0x04#32) ||| 0x10#32) &&& ~~~0x08#32,
          sync := ⟨k, p, k + s.geo.lPreamble + s.geo.gGuard⟩, sv := s.sv.map fun _ => none,
          tpl := chirp Config.num s.cfg s.geo, syms := [], fbits := [], payload := [] }))

/-- Rule R204 checks 3 and 4, rules R226 to R229: a command issued before the step it depends on is refused with
`SequenceError`, the configuration coming before the other flags. -/
def Obligations.CommandsOutOfSequenceAreRefused : Prop :=
  ∀ s : State, s.flag .halted = false →
    (s.flag .cfgValid = false → ∀ i, i ≠ .nop → i ≠ .derive → i ≠ .clrerr →
      exec i s = .next (failed s 7 1 0)) ∧
    (s.flag .cfgValid = true →
      exec .derive s = .next (failed s 7 2 0) ∧
      (s.flag .svValid = false →
        exec .unmap s = .next (failed s 7 3 0) ∧ exec .mod s = .next (failed s 7 3 0)) ∧
      (s.flag .tplValid = false →
        exec .txpre s = .next (failed s 7 4 0) ∧ exec .detect s = .next (failed s 7 4 0)) ∧
      (s.flag .synced = false → ∀ i, exec (.demod i) s = .next (failed s 7 5 0)))

/-- Rule R197 code 5 info 1 and 2 (rules R112, R115, R129, R131, R143, R157, R186): an index outside the data is refused with
that index, and a value outside its range with the least index that has one. -/
def Obligations.OperandsOutOfRangeAreRefused : Prop :=
  ∀ s : State, s.flag .halted = false → s.flag .cfgValid = true →
    (∀ i, s.syms.length ≤ i → exec (.map i) s = .next (failed s 5 1 i)) ∧
    (∀ i, s.flag .synced = true → s.rxs.length < s.sync.dataStart + (i + 1) * s.geo.nSymbol →
      exec (.demod i) s = .next (failed s 5 1 i)) ∧
    (2 ^ s.cfg.lengthFieldBits ≤ s.payload.length →
      exec .frame s = .next (failed s 5 2 0) ∧ exec .txframe s = .next (failed s 5 2 0)) ∧
    (∀ i x, s.syms[i]? = some x → 2 ^ s.geo.bitsPerSymbol ≤ x → exec (.map i) s = .next (failed s 5 2 i)) ∧
    (∀ k x, s.syms[k]? = some x → 2 ^ s.geo.bitsPerSymbol ≤ x →
      (∀ j y, j < k → s.syms[j]? = some y → y < 2 ^ s.geo.bitsPerSymbol) →
      exec .unpack s = .next (failed s 5 2 k)) ∧
    (∀ (v : BandVector) (b d : Nat), s.flag .svValid = true → s.sv = v.map some →
      v[b]? = some d → s.geo.statesPerBand ≤ d →
      (∀ j e, j < b → v[j]? = some e → e < s.geo.statesPerBand) →
      exec .unmap s = .next (failed s 5 2 b) ∧ exec .mod s = .next (failed s 5 2 b))

/-- Rule R9, rule R197 code 5 info 3: a result longer than its destination's capacity is refused, never truncated. -/
def Obligations.ResultsOverCapacityAreRefused : Prop :=
  ∀ s : State, s.flag .halted = false → s.flag .cfgValid = true →
    let lfb := s.cfg.lengthFieldBits
    let w := s.geo.bitsPerSymbol
    let K := ceilDiv (lfb + s.payload.length) w
    let M := s.rxs.length / s.geo.nSymbol
    (s.payload.length < 2 ^ lfb → fits (lfb + s.payload.length) s.caps.bits = false →
      exec .frame s = .next (failed s 5 3 0)) ∧
    (fits (ceilDiv s.fbits.length w) s.caps.syms = false → exec .pack s = .next (failed s 5 3 0)) ∧
    ((∀ x ∈ s.syms, x < 2 ^ w) → fits s.arg0 s.caps.bits = false → exec .unpack s = .next (failed s 5 3 0)) ∧
    (∀ v : BandVector, s.flag .svValid = true → s.sv = v.map some → (∀ d ∈ v, d < s.geo.statesPerBand) →
      (fits (s.syms.length + 1) s.caps.syms = false → exec .unmap s = .next (failed s 5 3 0)) ∧
      (fits (s.txs.length + s.geo.nSymbol) s.caps.samples = false → exec .mod s = .next (failed s 5 3 0))) ∧
    (fits s.geo.lPreamble s.caps.samples = false → exec .chirp s = .next (failed s 5 3 0)) ∧
    (s.flag .tplValid = true → fits (s.geo.lPreamble + s.geo.gGuard) s.caps.samples = false →
      exec .txpre s = .next (failed s 5 3 0)) ∧
    (s.payload.length < 2 ^ lfb →
      fits (lfb + s.payload.length) s.caps.bits = false ∨ fits K s.caps.syms = false ∨
        fits (s.geo.lPreamble + s.geo.gGuard + K * s.geo.nSymbol) s.caps.samples = false →
      exec .txframe s = .next (failed s 5 3 0)) ∧
    (fits s.geo.lPreamble s.caps.samples = false ∨ fits M s.caps.syms = false ∨
        fits (M * w) s.caps.bits = false →
      exec .rxframe s = .next (failed s 5 3 0))

/-! ## Who writes what -/

/-- Rule R58: repeating a command that replaces its destination, with the same inputs, gives the same state, however it
ended. -/
def Obligations.ReplacingCommandsAreIdempotent : Prop :=
  ∀ (i : Instr) (s t : State),
    (i ∈ [Instr.frame, .pack, .unpack, .deframe, .chirp, .txpre, .detect, .txframe, .rxframe] ∨
      (∃ k, i = .map k) ∨ ∃ k, i = .demod k) →
    exec i s = .next t → exec i t = .next t

/-- Rules R28, R30, R31, R38, R59: each buffer, the `SV` file, the geometry and the detection registers are written by the
commands the spec lists for them and by no other; no command writes the configuration, `ARG0`, `CMD` or `RXS`. `STATUS`
is `EachFlagHasItsWriters`; `RESULT`, `ERRLOG` and `ERRINFO` are `EveryCommandRecordsOneResult`. -/
def Obligations.EachStateHasItsWriters : Prop :=
  ∀ (i : Instr) (s t : State), exec i s = .next t →
    (t.cfg = s.cfg ∧ t.arg0 = s.arg0 ∧ t.cmd = s.cmd ∧ t.rxs = s.rxs ∧ t.caps = s.caps ∧
      t.pending = s.pending ∧ t.answer = s.answer) ∧
    (t.geo ≠ s.geo → i = .derive) ∧
    (t.sync ≠ s.sync → i ∈ [Instr.detect, .rxframe]) ∧
    (t.sv ≠ s.sv → i ∈ [Instr.derive, .txframe, .rxframe] ∨ ∃ k, i = .map k ∨ i = .demod k) ∧
    (t.payload ≠ s.payload → i ∈ [Instr.deframe, .rxframe]) ∧
    (t.fbits ≠ s.fbits → i ∈ [Instr.frame, .unpack, .txframe, .rxframe]) ∧
    (t.syms ≠ s.syms → i ∈ [Instr.pack, .unmap, .txframe, .rxframe]) ∧
    (t.tpl ≠ s.tpl → i ∈ [Instr.chirp, .txframe, .rxframe]) ∧
    (t.txs ≠ s.txs → i ∈ [Instr.txpre, .mod, .txframe])

/-- Rule R34: each flag of `STATUS` is set and cleared by the commands of its row and by no other; the reserved bits are
never written. -/
def Obligations.EachFlagHasItsWriters : Prop :=
  ∀ (i : Instr) (s t : State), exec i s = .next t →
    (∀ k, 5 ≤ k → t.status.getLsbD k = s.status.getLsbD k) ∧
    (t.flag .cfgValid ≠ s.flag .cfgValid → t.flag .cfgValid = true ∧ i = .derive ∧ t.result = 0) ∧
    (t.flag .halted ≠ s.flag .halted → t.flag .halted = true ∧ i = .derive ∧ t.result = 1) ∧
    (t.flag .tplValid ≠ s.flag .tplValid →
      t.flag .tplValid = true ∧ i ∈ [Instr.chirp, .txframe, .rxframe]) ∧
    (t.flag .svValid ≠ s.flag .svValid →
      (t.flag .svValid = true ∧ t.result = 0 ∧ (i ∈ [Instr.txframe, .rxframe] ∨ ∃ k, i = .map k ∨ i = .demod k)) ∨
      (t.flag .svValid = false ∧ t.result = 3 ∧ (i = .rxframe ∨ ∃ k, i = .demod k))) ∧
    (t.flag .synced ≠ s.flag .synced →
      i ∈ [Instr.detect, .rxframe] ∧ (t.flag .synced = false ↔ t.result = 2))

/-- Rule R26: `UNPACK` alone reads `ARG0`: every other command does the same whatever `ARG0` holds. -/
def Obligations.OnlyUnpackReadsArg0 : Prop :=
  ∀ (i : Instr) (s t : State) (a : Nat), i ≠ .unpack → exec i s = .next t →
    exec i { s with arg0 := a } = .next { t with arg0 := a }

/-! ## Control commands and the Parameter Deriver -/

/-- Rules R91, R97: `NOP` records success and does nothing else; `CLRERR` clears the three result registers and leaves
`STATUS` as it is. -/
def Obligations.NopAndClrerrTouchOnlyTheResults : Prop :=
  ∀ s : State, s.flag .halted = false →
    exec .nop s = .next { s with result := 0 } ∧
    exec .clrerr s = .next { s with result := 0, errlog := 0, errinfo := 0 }

/-- Rules R28, R92, R93, R95: on a feasible configuration `DERIVE` writes the geometry, sizes `SV`, sets `CFG_VALID` and
changes nothing else. -/
def Obligations.DeriveWritesTheGeometry : Prop :=
  ∀ s : State, s.flag .halted = false → s.flag .cfgValid = false →
    let c := s.cfg
    let S := ((c.bandHigh - c.bandLow) / (c.bandCount : Rat) / c.step).floor
    0 < c.sampleRate → 0 < c.symbolDuration → 0 < c.bandCount → 0 < c.step → 0 < c.preDuration →
    1 ≤ roundHE (c.sampleRate * c.symbolDuration) → 1 ≤ roundHE (c.sampleRate * c.preDuration) →
    1 / c.symbolDuration ≤ c.step → 2 ≤ S → fits c.bandCount s.caps.bands = true →
    exec .derive s = .next { s with
      geo :=
        { bandWidth := (c.bandHigh - c.bandLow) / (c.bandCount : Rat)
          statesPerBand := S.toNat
          alphabetSize := S.toNat ^ c.bandCount
          bitsPerSymbol := Nat.log2 (S.toNat ^ c.bandCount)
          nSymbol := (roundHE (c.sampleRate * c.symbolDuration)).toNat
          lPreamble := (roundHE (c.sampleRate * c.preDuration)).toNat
          gGuard := (max 0 (roundHE (c.sampleRate * c.guardDuration))).toNat
          chirpRate := (c.preEndFreq - c.preStartFreq) / c.preDuration }
      sv := List.replicate c.bandCount none
      status := s.status ||| 0x01#32
      result := 0 }

/-- Rules R92, R94, R96: an infeasible configuration halts the block with the first cause that applies, degenerate
constants, then resolution, then the alphabet, then the capacity. -/
def Obligations.DeriveHaltsOnTheFirstCause : Prop :=
  ∀ s : State, s.flag .halted = false → s.flag .cfgValid = false →
    let c := s.cfg
    let degenerate := c.sampleRate ≤ 0 ∨ c.symbolDuration ≤ 0 ∨ c.bandCount = 0 ∨ c.step ≤ 0 ∨
      c.preDuration ≤ 0 ∨ roundHE (c.sampleRate * c.symbolDuration) = 0 ∨
      roundHE (c.sampleRate * c.preDuration) = 0
    let unresolvable := c.step < 1 / c.symbolDuration
    let noAlphabet := ((c.bandHigh - c.bandLow) / (c.bandCount : Rat) / c.step).floor < 2
    let tooMany := fits c.bandCount s.caps.bands = false
    let halt (info : Nat) : State := { failed s 1 info 0 with status := s.status ||| 0x02#32 }
    (degenerate → exec .derive s = .next (halt 3)) ∧
    (¬degenerate → unresolvable → exec .derive s = .next (halt 1)) ∧
    (¬degenerate → ¬unresolvable → noAlphabet → exec .derive s = .next (halt 2)) ∧
    (¬degenerate → ¬unresolvable → ¬noAlphabet → tooMany → exec .derive s = .next (halt 4))

/-- Rule R29 (and rule R95's property): the geometry `derive` accepts meets the invariants, and `w` is the floor of the
base-2 logarithm of the alphabet (rule R11). -/
def Obligations.DerivedGeometryMeetsTheInvariants : Prop :=
  ∀ (c : ConfigRegs) (cap : Capacity) (g : Geometry), derive c cap = .ok g →
    2 ≤ g.statesPerBand ∧ 1 ≤ g.bitsPerSymbol ∧ g.alphabetSize = g.statesPerBand ^ c.bandCount ∧
      2 ^ g.bitsPerSymbol ≤ g.alphabetSize ∧ g.alphabetSize < 2 ^ (g.bitsPerSymbol + 1) ∧
      1 / c.symbolDuration ≤ c.step ∧ 1 ≤ g.nSymbol ∧ 1 ≤ g.lPreamble ∧ 1 ≤ c.bandCount

/-- Rule R12: `round_he` is a nearest integer, and the even one when two are equally near. -/
def Obligations.RoundHalfEvenIsNearest : Prop :=
  ∀ (x : Rat) (m : Int),
    |x - (roundHE x : Rat)| ≤ |x - (m : Rat)| ∧
      (m ≠ roundHE x → |x - (roundHE x : Rat)| = |x - (m : Rat)| → roundHE x % 2 = 0)

/-! ## The Bit/Symbol Packer and the frame -/

/-- Rule R14: `be_value` is the sum of the bits' weights, element 0 the most significant, and `be_bits` is its inverse. -/
def Obligations.BigEndianValueAndBits : Prop :=
  (∀ b : List Bit, beValue b =
    ∑ j ∈ Finset.range b.length, (if b.getD j false then 1 else 0) * 2 ^ (b.length - 1 - j)) ∧
  (∀ v n : Nat, v < 2 ^ n → (beBits v n).length = n ∧ beValue (beBits v n) = v) ∧
  ∀ b : List Bit, beBits (beValue b) b.length = b

/-- Rule R106 (and rule R52): `pack` gives ceil(len / w) symbols below 2^w; bit j of symbol k, the most significant first, is
bit k·w + j of the sequence, and 0 past its end. -/
def Obligations.PackChunksBigEndian : Prop :=
  ∀ (bits : List Bit) (w : Nat), 1 ≤ w →
    (pack bits w).length = ceilDiv bits.length w ∧
    ∀ k x, (pack bits w)[k]? = some x →
      x < 2 ^ w ∧ ∀ j, j < w → x.testBit (w - 1 - j) = bits.getD (k * w + j) false

/-- Rule R108, both directions. -/
def Obligations.UnpackInvertsPack : Prop :=
  (∀ (bits : List Bit) (w : Nat), 1 ≤ w → unpack (pack bits w) w bits.length = bits) ∧
  ∀ (symbols : List Nat) (w : Nat), 1 ≤ w → (∀ x ∈ symbols, x < 2 ^ w) →
    pack (unpack symbols w (symbols.length * w)) w = symbols

/-- Rule R113: a frame's payload comes back, from all the bits or from exactly the frame's. -/
def Obligations.FrameRoundTrip : Prop :=
  ∀ (payload : List Bit) (lfb w : Nat), payload.length < 2 ^ lfb → 1 ≤ w →
    let symbols := pack (frameBits payload lfb) w
    parseFrame (unpack symbols w (symbols.length * w)) lfb = .ok payload ∧
      parseFrame (unpack symbols w (lfb + payload.length)) lfb = .ok payload

/-- Rules R110, R112, R114: `FRAME` puts the length field, then the payload, into `FBITS`; `PACK` makes `SYMS` the packed
`FBITS` (what `pack` is, `PackChunksBigEndian` says). -/
def Obligations.FrameAndPackWriteTheFrame : Prop :=
  ∀ s : State, s.flag .halted = false → s.flag .cfgValid = true →
    (s.payload.length < 2 ^ s.cfg.lengthFieldBits →
      fits (s.cfg.lengthFieldBits + s.payload.length) s.caps.bits = true →
      exec .frame s = .next { s with
        fbits := beBits s.payload.length s.cfg.lengthFieldBits ++ s.payload, result := 0 }) ∧
    (fits (ceilDiv s.fbits.length s.geo.bitsPerSymbol) s.caps.syms = true →
      exec .pack s = .next { s with syms := pack s.fbits s.geo.bitsPerSymbol, result := 0 })

/-- Rule R115: `UNPACK` keeps the first `ARG0` bits of the symbols, or reports that fewer were received and empties
`FBITS`. -/
def Obligations.UnpackWritesTheFrameBits : Prop :=
  ∀ s : State, s.flag .halted = false → s.flag .cfgValid = true →
    (∀ x ∈ s.syms, x < 2 ^ s.geo.bitsPerSymbol) → fits s.arg0 s.caps.bits = true →
    (s.arg0 ≤ s.syms.length * s.geo.bitsPerSymbol →
      exec .unpack s = .next { s with
        fbits := (s.syms.flatMap fun x => beBits x s.geo.bitsPerSymbol).take s.arg0, result := 0 }) ∧
    (s.syms.length * s.geo.bitsPerSymbol < s.arg0 →
      exec .unpack s = .next { failed s 3 2 0 with fbits := [] })

/-- Rules R111, R116: `DEFRAME` takes the payload the length field counts, ignoring what follows, or reports that fewer bits
were received and empties `PAYLOAD`. -/
def Obligations.DeframeWritesThePayload : Prop :=
  ∀ s : State, s.flag .halted = false → s.flag .cfgValid = true →
    let lfb := s.cfg.lengthFieldBits
    let n := beValue (s.fbits.take lfb)
    (lfb + n ≤ s.fbits.length →
      exec .deframe s = .next { s with payload := (s.fbits.drop lfb).take n, result := 0 }) ∧
    (s.fbits.length < lfb ∨ s.fbits.length < lfb + n →
      exec .deframe s = .next { failed s 3 2 0 with payload := [] })

/-! ## The Band Mapper -/

/-- Rules R126 to R128: the digits of a symbol, low band first, are below S; they and their weighted sum are inverse to each
other; every symbol below 2^w has a vector, and none is left over exactly when S^B is a power of two. -/
def Obligations.BandDigitsAreABijection : Prop :=
  (∀ (S : Nat) (v : BandVector), fromStates S v = ∑ b ∈ Finset.range v.length, v.getD b 0 * S ^ b) ∧
  ∀ S B : Nat, 2 ≤ S → 1 ≤ B →
    (∀ x b, x < S ^ B → b < B → (toStates x S B)[b]? = some (x / S ^ b % S)) ∧
    (∀ x, x < S ^ B → (toStates x S B).length = B ∧ (∀ d ∈ toStates x S B, d < S) ∧
      fromStates S (toStates x S B) = x) ∧
    (∀ v : BandVector, v.length = B → (∀ d ∈ v, d < S) →
      fromStates S v < S ^ B ∧ toStates (fromStates S v) S B = v) ∧
    2 ^ ilog2 (S ^ B) ≤ S ^ B ∧ (2 ^ ilog2 (S ^ B) = S ^ B ↔ ∃ k, S ^ B = 2 ^ k)

/-- Rule R129. -/
def Obligations.MapWritesTheVector : Prop :=
  ∀ (s : State) (i x : Nat), s.flag .halted = false → s.flag .cfgValid = true →
    s.syms[i]? = some x → x < 2 ^ s.geo.bitsPerSymbol →
    exec (.map i) s = .next { s with
      sv := (List.range s.cfg.bandCount).map fun b =>
        some (x / s.geo.statesPerBand ^ b % s.geo.statesPerBand)
      status := s.status ||| 0x08#32
      result := 0 }

/-- Rule R131: a vector whose symbol is valid is appended to `SYMS`; one whose symbol is 2^w or more is a `DecodeError` with
the index the symbol would have taken. -/
def Obligations.UnmapAppendsTheSymbol : Prop :=
  ∀ (s : State) (v : BandVector), s.flag .halted = false → s.flag .cfgValid = true →
    s.flag .svValid = true → s.sv = v.map some → (∀ d ∈ v, d < s.geo.statesPerBand) →
    fits (s.syms.length + 1) s.caps.syms = true →
    let x := ∑ b ∈ Finset.range v.length, v.getD b 0 * s.geo.statesPerBand ^ b
    (x < 2 ^ s.geo.bitsPerSymbol → exec .unmap s = .next { s with syms := s.syms ++ [x], result := 0 }) ∧
    (2 ^ s.geo.bitsPerSymbol ≤ x → exec .unmap s = .next (failed s 3 1 s.syms.length))

/-! ## The Modulator and the Demodulator -/

/-- Rule R141: N samples; sample n is the quantised mean over the bands of the sine of the band's tone at n / sr. -/
def Obligations.ModulatedSampleIsTheMeanOfTheTones : Prop :=
  ∀ (num : Numerics) (c : ConfigRegs) (g : Geometry) (v : BandVector), v.length = c.bandCount →
    (modulate num c g v).length = g.nSymbol ∧
    ∀ n, n < g.nSymbol → (modulate num c g v)[n]? =
      some (num.q (1 / (c.bandCount : Rat) * ∑ b ∈ Finset.range c.bandCount,
        num.sinturn ((c.bandLow + (b : Rat) * g.bandWidth + (v.getD b 0 : Rat) * c.step) * (n : Rat) /
          c.sampleRate)))

/-- Rules R145, R168: under `NP_range` and `NP_q_range` every sample of a window lies in [−1, +1]; under `NP_range` the
chirp's clip changes nothing, and under `NP_q_range` every sample of the chirp lies in [−1, +1]; under `NP_zero` sample 0
of both is 0. -/
def Obligations.GeneratedSamplesStayInRange : Prop :=
  ∀ (num : Numerics) (c : ConfigRegs) (g : Geometry) (v : BandVector),
    (num.NPRange → num.NPQRange → v.length = c.bandCount → 1 ≤ c.bandCount →
      ∀ x ∈ modulate num c g v, -1 ≤ x ∧ x ≤ 1) ∧
    (num.NPRange → ∀ n, clip (num.sinturn (chirpTurns c g n)) = num.sinturn (chirpTurns c g n)) ∧
    (num.NPQRange → ∀ x ∈ chirp num c g, -1 ≤ x ∧ x ≤ 1) ∧
    (num.NPZero → (∀ x, (modulate num c g v)[0]? = some x → x = 0) ∧
      ∀ x, (chirp num c g)[0]? = some x → x = 0)

/-- Rule R143. -/
def Obligations.ModAppendsTheWindow : Prop :=
  ∀ (s : State) (v : BandVector), s.flag .halted = false → s.flag .cfgValid = true →
    s.flag .svValid = true → s.sv = v.map some → (∀ d ∈ v, d < s.geo.statesPerBand) →
    fits (s.txs.length + s.geo.nSymbol) s.caps.samples = true →
    exec .mod s = .next { s with txs := s.txs ++ modulate Config.num s.cfg s.geo v, result := 0 }

/-- Rule R151: `P(k)` is the squared magnitude of bin k of the N-point transform of the window. -/
def Obligations.PowerIsTheSquaredTransform : Prop :=
  ∀ (num : Numerics) (x : List Sample) (k : Nat),
    power num x.length x k =
      (∑ n ∈ Finset.range x.length, x.getD n 0 * num.costurn ((k : Rat) * (n : Rat) / (x.length : Rat))) ^ 2 +
      (-∑ n ∈ Finset.range x.length, x.getD n 0 * num.sinturn ((k : Rat) * (n : Rat) / (x.length : Rat))) ^ 2

/-- Rules R152 to R156: a decoded vector has a state below S for each band, that of the band's strongest bin, the lowest on
ties, rounded to the nearest step; and its symbol is valid. -/
def Obligations.DemodulatePicksEachBandsPeak : Prop :=
  ∀ (num : Numerics) (c : ConfigRegs) (g : Geometry) (x : List Sample) (v : BandVector), 0 < c.step →
    demodulate num c g x = .ok v →
    v.length = c.bandCount ∧ (∀ d ∈ v, d < g.statesPerBand) ∧
    fromStates g.statesPerBand v < 2 ^ g.bitsPerSymbol ∧
    ∀ b d : Nat, v[b]? = some d →
      let lo := c.bandLow + (b : Rat) * g.bandWidth
      let freq (k : Nat) : Rat := (k : Rat) * c.sampleRate / (g.nSymbol : Rat)
      let inBand (k : Nat) : Prop := k ≤ g.nSymbol / 2 ∧ lo ≤ freq k ∧ freq k < lo + g.bandWidth
      ∃ k, inBand k ∧ (d : Int) = roundHE ((freq k - lo) / c.step) ∧
        ∀ j, inBand j → power num g.nSymbol x j ≤ power num g.nSymbol x k ∧
          (power num g.nSymbol x j = power num g.nSymbol x k → k ≤ j)

/-- Rules R152 to R156, every outcome of `demodulate`: success exactly when every band has a state below S and the symbol is
below 2^w; the alphabet failure exactly when every band has one and the symbol is 2^w or more; otherwise the lowest band
without one, either empty (info 3) or with a peak whose step index is S or more (info 4). -/
def Obligations.DemodulateReportsTheLowestFailure : Prop :=
  ∀ (num : Numerics) (c : ConfigRegs) (g : Geometry) (x : List Sample), 0 < c.step →
    let lo (b : Nat) : Rat := c.bandLow + (b : Rat) * g.bandWidth
    let freq (k : Nat) : Rat := (k : Rat) * c.sampleRate / (g.nSymbol : Rat)
    let inBand (b k : Nat) : Prop := k ≤ g.nSymbol / 2 ∧ lo b ≤ freq k ∧ freq k < lo b + g.bandWidth
    let peak (b k : Nat) : Prop := inBand b k ∧ ∀ j, inBand b j → power num g.nSymbol x j ≤ power num g.nSymbol x k ∧
      (power num g.nSymbol x j = power num g.nSymbol x k → k ≤ j)
    let state (b k : Nat) : Int := roundHE ((freq k - lo b) / c.step)
    let decodes (b d : Nat) : Prop := d < g.statesPerBand ∧ ∃ k, peak b k ∧ state b k = (d : Int)
    let decoded (v : BandVector) : Prop := v.length = c.bandCount ∧ ∀ b d, v[b]? = some d → decodes b d
    (∀ v, demodulate num c g x = .ok v ↔ decoded v ∧ fromStates g.statesPerBand v < 2 ^ g.bitsPerSymbol) ∧
    (∀ b, demodulate num c g x = .error (.alphabet, b) ↔
      b = 0 ∧ ∃ v, decoded v ∧ 2 ^ g.bitsPerSymbol ≤ fromStates g.statesPerBand v) ∧
    (∀ b, demodulate num c g x = .error (.emptyBand, b) ↔
      b < c.bandCount ∧ (∀ b', b' < b → ∃ d, decodes b' d) ∧ ∀ k, ¬inBand b k) ∧
    (∀ b, demodulate num c g x = .error (.stepIndex, b) ↔
      b < c.bandCount ∧ (∀ b', b' < b → ∃ d, decodes b' d) ∧
        ∃ k, peak b k ∧ (g.statesPerBand : Int) ≤ state b k) ∧
    ∀ b, demodulate num c g x ≠ .error (.length, b)

/-- Rules R56, R157: `DEMOD i` decodes window i of the synchronised capture into `SV`, or reports the failure with its number
of rule R197 and leaves no value there (an element without a value is unwritten, log 6). -/
def Obligations.DemodWritesTheVector : Prop :=
  ∀ (s : State) (i : Nat), s.flag .halted = false → s.flag .cfgValid = true → s.flag .synced = true →
    s.sync.dataStart + (i + 1) * s.geo.nSymbol ≤ s.rxs.length →
    let x := (s.rxs.drop (s.sync.dataStart + i * s.geo.nSymbol)).take s.geo.nSymbol
    (∀ v, demodulate Config.num s.cfg s.geo x = .ok v →
      exec (.demod i) s = .next { s with
        sv := v.map some, status := s.status ||| 0x08#32, result := 0 }) ∧
    let failedWith (info index : Nat) : State := { failed s 3 info index with
      sv := s.sv.map fun _ => none, status := s.status &&& ~~~0x08#32 }
    ∀ b, (demodulate Config.num s.cfg s.geo x = .error (.alphabet, b) → exec (.demod i) s = .next (failedWith 1 i)) ∧
      (demodulate Config.num s.cfg s.geo x = .error (.emptyBand, b) → exec (.demod i) s = .next (failedWith 3 b)) ∧
      (demodulate Config.num s.cfg s.geo x = .error (.stepIndex, b) → exec (.demod i) s = .next (failedWith 4 b))

/-! ## The Chirp Preamble Codec -/

/-- Rules R166, R167: L samples; sample n is the quantised, clipped sine of the swept phase at n / sr. -/
def Obligations.ChirpSamplesTheSweptPhase : Prop :=
  ∀ (num : Numerics) (c : ConfigRegs) (g : Geometry),
    (chirp num c g).length = g.lPreamble ∧
    ∀ n, n < g.lPreamble → (chirp num c g)[n]? =
      some (num.q (max (-1) (min 1 (num.sinturn
        (g.chirpRate / 2 * ((n : Rat) / c.sampleRate) ^ 2 + c.preStartFreq * ((n : Rat) / c.sampleRate))))))

/-- Rules R169 to R171: `CHIRP` writes the template and sets `TPL_VALID`; `TXPRE` makes `TXS` the template and G zeros. -/
def Obligations.ChirpAndTxpreWriteThePreamble : Prop :=
  ∀ s : State, s.flag .halted = false → s.flag .cfgValid = true →
    (fits s.geo.lPreamble s.caps.samples = true →
      exec .chirp s = .next { s with
        tpl := chirp Config.num s.cfg s.geo, status := s.status ||| 0x04#32, result := 0 }) ∧
    (s.flag .tplValid = true → fits (s.geo.lPreamble + s.geo.gGuard) s.caps.samples = true →
      exec .txpre s = .next { s with txs := s.tpl ++ List.replicate s.geo.gGuard 0, result := 0 })

/-- Rules R173, R175, R177: `detect` answers the earliest offset whose raw correlation is greatest over every full-overlap
offset, if that reaches the threshold; it fails with info 1 when there is no offset and with info 2 below the
threshold. -/
def Obligations.DetectFindsTheEarliestPeak : Prop :=
  ∀ (rx tpl : List Sample) (thr : Rat),
    let corrAt (k : Nat) : Rat := ∑ n ∈ Finset.range tpl.length, tpl.getD n 0 * rx.getD (k + n) 0
    (∀ k p, detect rx tpl thr = .ok (k, p) ↔
      k + tpl.length ≤ rx.length ∧ p = corrAt k ∧ thr ≤ p ∧
        (∀ j, j + tpl.length ≤ rx.length → corrAt j ≤ p ∧ (j < k → corrAt j < p))) ∧
    (detect rx tpl thr = .error .tooShort ↔ rx.length < tpl.length) ∧
    (detect rx tpl thr = .error .belowThreshold ↔
      tpl.length ≤ rx.length ∧ ∀ j, j + tpl.length ≤ rx.length → corrAt j < thr)

/-- Rules R176, R178: `DETECT` writes the offset, the peak and the data start and sets `SYNCED`, or clears them and reports
why, with the numbers of rule R197. -/
def Obligations.DetectSynchronises : Prop :=
  ∀ s : State, s.flag .halted = false → s.flag .cfgValid = true → s.flag .tplValid = true →
    (∀ k p, detect s.rxs s.tpl s.cfg.syncThreshold = .ok (k, p) →
      exec .detect s = .next { s with
        sync := ⟨k, p, k + s.geo.lPreamble + s.geo.gGuard⟩, status := s.status ||| 0x10#32, result := 0 }) ∧
    let failedWith (info : Nat) : State := { failed s 2 info 0 with
      sync := ⟨0, 0, 0⟩, status := s.status &&& ~~~0x10#32 }
    (detect s.rxs s.tpl s.cfg.syncThreshold = .error .tooShort → exec .detect s = .next (failedWith 1)) ∧
    (detect s.rxs s.tpl s.cfg.syncThreshold = .error .belowThreshold → exec .detect s = .next (failedWith 2))

/-! ## Whole frames -/

/-- Rules R77 to R80, R187: a transmission is L samples of chirp, G zeros and, for each symbol of the packed frame, N samples
of its vector's window. -/
def Obligations.TransmissionLayout : Prop :=
  ∀ (num : Numerics) (c : ConfigRegs) (g : Geometry) (payload : List Bit),
    let symbols := pack (frameBits payload c.lengthFieldBits) g.bitsPerSymbol
    let tx := txWaveform num c g payload
    tx.length = g.lPreamble + g.gGuard + symbols.length * g.nSymbol ∧
    tx.take g.lPreamble = chirp num c g ∧
    (tx.drop g.lPreamble).take g.gGuard = List.replicate g.gGuard 0 ∧
    ∀ k x, symbols[k]? = some x →
      (tx.drop (g.lPreamble + g.gGuard + k * g.nSymbol)).take g.nSymbol =
        modulate num c g (toStates x g.statesPerBand c.bandCount)

/-- Rules R186, R187: `TXFRAME` writes the frame bits, the symbols, the template and the waveform, and `SV` with the last
symbol's vector when there is a symbol. -/
def Obligations.TxframeWritesTheTransmission : Prop :=
  ∀ s : State, s.flag .halted = false → s.flag .cfgValid = true →
    s.payload.length < 2 ^ s.cfg.lengthFieldBits →
    let bits := beBits s.payload.length s.cfg.lengthFieldBits ++ s.payload
    let symbols := pack bits s.geo.bitsPerSymbol
    fits bits.length s.caps.bits = true → fits symbols.length s.caps.syms = true →
    fits (s.geo.lPreamble + s.geo.gGuard + symbols.length * s.geo.nSymbol) s.caps.samples = true →
    let t := { s with
      fbits := bits
      syms := symbols
      tpl := chirp Config.num s.cfg s.geo
      txs := chirp Config.num s.cfg s.geo ++ List.replicate s.geo.gGuard 0 ++
        symbols.flatMap fun x => modulate Config.num s.cfg s.geo (toStates x s.geo.statesPerBand s.cfg.bandCount)
      status := s.status ||| 0x04#32
      result := 0 }
    (symbols = [] → exec .txframe s = .next t) ∧
    (∀ init last, symbols = init ++ [last] →
      exec .txframe s = .next { t with
        sv := (toStates last s.geo.statesPerBand s.cfg.bandCount).map some
        status := s.status ||| 0x04#32 ||| 0x08#32 })

/-- Rule R186: a successful `TXFRAME` ends in the state of `FRAME; PACK; CHIRP; TXPRE` and then `MAP k; MOD` for every
symbol (the `MAP k` with k of 2^24 or more, which no word names, is here the command itself, rule R73). -/
def Obligations.TxframeEqualsThePrimitiveCommands : Prop :=
  ∀ s t : State, Inv s → s.flag .halted = false → exec .txframe s = .next t → t.result = 0 →
    runCommands ([.frame, .pack, .chirp, .txpre] ++
      (List.range t.syms.length).flatMap fun k => [.map k, .mod]) s = .next t

/-- Rules R177, R188: `rx_frame` as its steps answer: no preamble; a capture too short for the header; the first header
window that does not decode; a capture too short for the length read; the first further window that does not
decode; otherwise the frame, with its symbols, bits, payload and last vector. With `lfb = 0` and a capture that ends before
its data start the steps' error stands against rule R189's corner case: the model's choice, log 18. -/
def Obligations.RxFrameAnswersItsSteps : Prop :=
  ∀ (num : Numerics) (c : ConfigRegs) (g : Geometry) (rx : List Sample),
    let lfb := c.lengthFieldBits
    let w := g.bitsPerSymbol
    let K0 := ceilDiv lfb w
    (∀ e, detect rx (chirp num c g) c.syncThreshold = .error e → rxFrame num c g rx = .syncError e) ∧
    ∀ k p, detect rx (chirp num c g) c.syncThreshold = .ok (k, p) →
      let ds := k + g.lPreamble + g.gGuard
      let dec (i : Nat) : Except (DecodeCause × Nat) BandVector :=
        demodulate num c g ((rx.drop (ds + i * g.nSymbol)).take g.nSymbol)
      let bitsOf (vs : List BandVector) : List Bit := vs.flatMap fun v => beBits (fromStates g.statesPerBand v) w
      (rx.length < ds + K0 * g.nSymbol → rxFrame num c g rx = .decodeError k p ds .length 0) ∧
      (ds + K0 * g.nSymbol ≤ rx.length →
        (∀ i e b, i < K0 → (∀ j, j < i → ∃ v, dec j = .ok v) → dec i = .error (e, b) →
          rxFrame num c g rx = .decodeError k p ds e (if e = .alphabet then i else b)) ∧
        ∀ header : List BandVector, header.length = K0 → (∀ i v, header[i]? = some v → dec i = .ok v) →
          let n := beValue ((bitsOf header).take lfb)
          let K := ceilDiv (lfb + n) w
          (rx.length < ds + K * g.nSymbol → rxFrame num c g rx = .decodeError k p ds .length 0) ∧
          (ds + K * g.nSymbol ≤ rx.length →
            (∀ i e b, K0 ≤ i → i < K → (∀ j, K0 ≤ j → j < i → ∃ v, dec j = .ok v) → dec i = .error (e, b) →
              rxFrame num c g rx = .decodeError k p ds e (if e = .alphabet then i else b)) ∧
            ∀ vs : List BandVector, vs.length = K → (∀ i v, vs[i]? = some v → dec i = .ok v) →
              rxFrame num c g rx = .ok k p ds (vs.map (fromStates g.statesPerBand)) ((bitsOf vs).take (lfb + n))
                ((((bitsOf vs).take (lfb + n)).drop lfb).take n) vs.getLast?))

/-- Rules R188, R189, R197: `RXFRAME` writes what `rx_frame` decodes from the capture: synchronisation, template, symbols,
frame bits, payload, and `SV` with the last vector when there is a symbol; or what each failure leaves, with its
number and index (that the elements of `SV` are then unwritten is the model's reading, log 6). When `rx_frame` answers
which is `RxFrameAnswersItsSteps`. -/
def Obligations.RxframeWritesTheFrame : Prop :=
  ∀ s : State, s.flag .halted = false → s.flag .cfgValid = true → fits s.geo.lPreamble s.caps.samples = true →
    fits (s.rxs.length / s.geo.nSymbol) s.caps.syms = true →
    fits (s.rxs.length / s.geo.nSymbol * s.geo.bitsPerSymbol) s.caps.bits = true →
    let tpl := chirp Config.num s.cfg s.geo
    let rx := rxFrame Config.num s.cfg s.geo s.rxs
    let lost (info : Nat) : State := { failed s 2 info 0 with
      tpl := tpl, sync := ⟨0, 0, 0⟩, syms := [], fbits := [], payload := []
      status := (s.status ||| 0x04#32) &&& ~~~0x10#32 }
    (∀ (k : Nat) (p : Rat) (ds : Nat) (symbols : List Nat) (fbits payload : List Bit) (last : Option BandVector),
      rx = .ok k p ds symbols fbits payload last →
      let t := { s with
        tpl := tpl
        sync := ⟨k, p, ds⟩
        syms := symbols
        fbits := fbits
        payload := payload
        status := s.status ||| 0x04#32 ||| 0x10#32
        result := 0 }
      (last = none → exec .rxframe s = .next t) ∧
      (∀ v, last = some v →
        exec .rxframe s = .next { t with
          sv := v.map some, status := s.status ||| 0x04#32 ||| 0x10#32 ||| 0x08#32 })) ∧
    (rx = .syncError .tooShort → exec .rxframe s = .next (lost 1)) ∧
    (rx = .syncError .belowThreshold → exec .rxframe s = .next (lost 2)) ∧
    ∀ (k : Nat) (p : Rat) (ds index : Nat),
      let bad (info : Nat) : State := { failed s 3 info index with
        tpl := tpl, sync := ⟨k, p, ds⟩, syms := [], fbits := [], payload := [], sv := s.sv.map fun _ => none
        status := (s.status ||| 0x04#32 ||| 0x10#32) &&& ~~~0x08#32 }
      (rx = .decodeError k p ds .alphabet index → exec .rxframe s = .next (bad 1)) ∧
      (rx = .decodeError k p ds .length index → exec .rxframe s = .next (bad 2)) ∧
      (rx = .decodeError k p ds .emptyBand index → exec .rxframe s = .next (bad 3)) ∧
      (rx = .decodeError k p ds .stepIndex index → exec .rxframe s = .next (bad 4))

/-- Rule R189: a successful `RXFRAME` ends in the state of `CHIRP; DETECT`, then `DEMOD k; UNMAP` for every symbol from an empty
`SYMS`, then `UNPACK` with `ARG0 = lfb + n` and `DEFRAME`, but for `ARG0`. -/
def Obligations.RxframeEqualsThePrimitiveCommands : Prop :=
  ∀ s t : State, Inv s → s.flag .halted = false → exec .rxframe s = .next t → t.result = 0 →
    let a := s.cfg.lengthFieldBits + t.payload.length
    runCommands ([.chirp, .detect] ++
      (List.range t.syms.length).flatMap (fun k => [.demod k, .unmap]) ++ [.unpack, .deframe])
      { s with syms := [], arg0 := a } = .next { t with arg0 := a }

/-- Rule R190, the loop-back: where detection finds the offset of the transmission and each vector of the frame survives
modulation, the receiver returns the payload sent, whatever follows. -/
def Obligations.LoopbackReturnsThePayload : Prop :=
  ∀ (num : Numerics) (c : ConfigRegs) (cap : Capacity) (g : Geometry) (payload : List Bit) (k : Nat) (p : Rat)
    (tail : List Sample),
    derive c cap = .ok g → payload.length < 2 ^ c.lengthFieldBits →
    let rx := List.replicate k 0 ++ txWaveform num c g payload ++ tail
    let symbols := pack (frameBits payload c.lengthFieldBits) g.bitsPerSymbol
    detect rx (chirp num c g) c.syncThreshold = .ok (k, p) →
    (∀ x ∈ symbols, demodulate num c g (modulate num c g (toStates x g.statesPerBand c.bandCount)) =
      .ok (toStates x g.statesPerBand c.bandCount)) →
    ∃ last, rxFrame num c g rx = .ok k p (k + g.lPreamble + g.gGuard) symbols
      (frameBits payload c.lengthFieldBits) payload last

/-! ## The host port -/

/-- Rules R21 to R24, R26, R59, R63: a host write of register `no` (not the command port) changes that register alone, and
only where its class and domain allow: 0 to 11 in mode UNCONFIGURED, 12 while not HALTED, the ℕ registers 4, 10, 12 by
naturals; any other write is ignored. Which register a number is, `HostReadsChangeNothing` says by the field it reads. -/
def Obligations.HostWritesObeyTheRegisterClass : Prop :=
  ∀ (s : State) (no : Nat) (v : Rat) (rest : List HostMove), s.pending = .writeReg no v :: rest → no ≠ 36 →
    let allowed : Prop := s.flag .halted = false ∧ (no = 12 ∨ no < 12 ∧ s.flag .cfgValid = false) ∧
      (no ∈ [4, 10, 12] → ∃ n : Nat, v = (n : Rat))
    ∃ t, step s = .next t ∧
      t = { s with cfg := t.cfg, arg0 := t.arg0, pending := rest } ∧
      (∀ m, m ≠ no → t.readReg m = s.readReg m) ∧
      (allowed → t.readReg no = v) ∧ (¬allowed → t.readReg no = s.readReg no)

/-- Rule R59: reserved numbers read 0, writing a word to register 36 is issuing it (log 9), and the port keeps every word
that is not ignored, a reserved one too (log 10). -/
def Obligations.ReservedRegistersAndTheCommandPort : Prop :=
  (∀ (s : State) (no : Nat), no ∈ [13, 14, 15, 27, 28, 29, 30, 31] ∨ 37 ≤ no → s.readReg no = 0) ∧
  (∀ (s : State) (c : Word) (rest : List HostMove),
    step { s with pending := .writeReg 36 ((c.toNat : Nat) : Rat) :: rest } =
      step { s with pending := .issue c :: rest }) ∧
  ∀ (s : State) (c : Word) (rest : List HostMove), s.pending = .issue c :: rest → s.flag .halted = false →
    ∃ t, step s = .next t ∧ t.cmd = c ∧ t.readReg 36 = ((c.toNat : Nat) : Rat)

/-- Rules R21, R22, R26, R28, R30, R34 to R37, R59, R63: each number reads the register the map gives it, and a read move
changes no state of the block and returns the register, the buffer, or `SV` with its flag
(`answer` holds what was returned, log 3). -/
def Obligations.HostReadsChangeNothing : Prop :=
  ∀ (s : State) (rest : List HostMove),
    ([0, 1, 2, 3, 4, 5, 6, 7, 8, 9, 10, 11, 12].map s.readReg =
      [s.cfg.sampleRate, s.cfg.symbolDuration, s.cfg.bandLow, s.cfg.bandHigh, (s.cfg.bandCount : Rat), s.cfg.step,
        s.cfg.preDuration, s.cfg.preStartFreq, s.cfg.preEndFreq, s.cfg.guardDuration, (s.cfg.lengthFieldBits : Rat),
        s.cfg.syncThreshold, (s.arg0 : Rat)]) ∧
    ([16, 17, 18, 19, 20, 21, 22, 23].map s.readReg =
      [s.geo.bandWidth, (s.geo.statesPerBand : Rat), (s.geo.alphabetSize : Rat), (s.geo.bitsPerSymbol : Rat),
        (s.geo.nSymbol : Rat), (s.geo.lPreamble : Rat), (s.geo.gGuard : Rat), s.geo.chirpRate]) ∧
    ([24, 25, 26, 32, 33, 34, 35, 36].map s.readReg =
      [(s.sync.offset : Rat), s.sync.peak, (s.sync.dataStart : Rat), (s.status.toNat : Rat), (s.result.toNat : Rat),
        (s.errlog.toNat : Rat), (s.errinfo.toNat : Rat), (s.cmd.toNat : Rat)]) ∧
    (∀ no, s.pending = .readReg no :: rest →
      step s = .next { s with pending := rest, answer := some (.reg (s.readReg no)) }) ∧
    (∀ buf, s.pending = .read buf :: rest →
      step s = .next { s with pending := rest, answer := some (.buffer (s.readBuffer buf)) }) ∧
    (s.pending = .readSv :: rest →
      step s = .next { s with pending := rest, answer := some (.sv s.sv (s.flag .svValid)) })

/-- Rules R9, R39, R40, R63: a load of data of the buffer's type that fits its capacity replaces that buffer and no other; a
load that is too long, or of `TPL`, is not performed (nor one of another type's data, log 8). -/
def Obligations.HostLoadsReplaceOneBuffer : Prop :=
  ∀ (s : State) (buf : Buffer) (d : BufData) (rest : List HostMove),
    s.pending = .load buf d :: rest → s.flag .halted = false →
    let fitsIt : Prop :=
      match buf, d with
      | .payload, .bits b => fits b.length s.caps.bits = true
      | .fbits, .bits b => fits b.length s.caps.bits = true
      | .syms, .symbols x => fits x.length s.caps.syms = true
      | .txs, .samples x => fits x.length s.caps.samples = true
      | .rxs, .samples x => fits x.length s.caps.samples = true
      | _, _ => False
    (fitsIt → ∃ t, step s = .next t ∧ t.readBuffer buf = d ∧
      (∀ other, other ≠ buf → t.readBuffer other = s.readBuffer other) ∧
      t.sv = s.sv ∧ (buf ≠ .rxs → ∀ no, t.readReg no = s.readReg no)) ∧
    (¬fitsIt → step s = .next { s with pending := rest })

/-- Rule R41. -/
def Obligations.NewCaptureClearsTheSynchronisation : Prop :=
  ∀ (s : State) (x : List Sample) (rest : List HostMove),
    s.pending = .load .rxs (.samples x) :: rest → s.flag .halted = false →
    fits x.length s.caps.samples = true →
    step s = .next { s with
      pending := rest, rxs := x, sync := ⟨0, 0, 0⟩, status := s.status &&& ~~~0x10#32 }

/-- Rule R32: `HostWriteSV` is taken only in mode READY and only with exactly `B` elements, which are not checked. -/
def Obligations.HostWritesTheWholeVector : Prop :=
  ∀ (s : State) (v : BandVector) (rest : List HostMove),
    s.pending = .writeSv v :: rest → s.flag .halted = false →
    (s.flag .cfgValid = true → v.length = s.cfg.bandCount →
      step s = .next { s with pending := rest, sv := v.map some, status := s.status ||| 0x08#32 }) ∧
    (s.flag .cfgValid = false ∨ v.length ≠ s.cfg.bandCount → step s = .next { s with pending := rest })
end

