-- ==== Sys2Proof/Laws/Arith.lean ====
section
/-! SUPPORT. What the notation functions and the operand checks answer, said once each. -/

namespace Sys2Proof.Machine

/-! ### Capacities -/

theorem fits_iff (n : Nat) (c : Capacity) : fits n c = true ↔ ∀ k, c = some k → n ≤ k := by
  cases c <;> simp [fits]

theorem fits_of_le {m n : Nat} {c : Capacity} (h : fits n c = true) (hm : m ≤ n) : fits m c = true := by
  rw [fits_iff] at *
  exact fun k hk => hm.trans (h k hk)

@[simp] theorem fits_zero (c : Capacity) : fits 0 c = true := by cases c <;> simp [fits]

/-! ### Rounding -/

theorem floor_le_self (x : Rat) : (x.floor : Rat) ≤ x := Int.floor_le x

theorem lt_floor_add_one (x : Rat) : x < (x.floor : Rat) + 1 := Int.lt_floor_add_one x

theorem roundHE_nonneg {x : Rat} (h : 0 ≤ x) : 0 ≤ roundHE x := by
  have : 0 ≤ x.floor := Int.floor_nonneg.2 h
  unfold roundHE
  split_ifs <;> omega

@[simp] theorem roundHE_intCast (m : Int) : roundHE (m : Rat) = m := by
  have h : (m : Rat).floor = m := Int.floor_intCast (R := Rat) m
  simp [roundHE, h]

/-! ### Sequences -/

/-- `round_he` takes what is nearer than a half to an integer to that integer (rule R12). -/
theorem roundHE_of_near {x : Rat} {m : Int} (h : |x - m| < 1 / 2) : roundHE x = m := by
  obtain ⟨h1, h2⟩ := abs_lt.1 h
  rcases lt_or_ge x (m : Rat) with hx | hx
  · have hf : ⌊x⌋ = m - 1 := Int.floor_eq_iff.2 ⟨by push_cast; linarith, by push_cast; linarith⟩
    change x.floor = _ at hf
    rw [roundHE, hf, if_neg (by push_cast; linarith), if_pos (by push_cast; linarith)]
    ring
  · have hf : ⌊x⌋ = m := Int.floor_eq_iff.2 ⟨hx, by linarith⟩
    change x.floor = _ at hf
    rw [roundHE, hf, if_pos (by linarith)]

@[simp] theorem length_beBits (v n : Nat) : (beBits v n).length = n := by simp [beBits]

@[simp] theorem length_silence (n : Nat) : (silence n).length = n := by simp [silence]

theorem length_slice {α : Type} (s : List α) (i j : Nat) : (slice s i j).length = min (j - i) (s.length - i) := by
  simp [slice]

/-- `collect` succeeds with the values of `f` in order. -/
theorem collect_eq_ok {ε α β : Type} (f : α → Except ε β) (as : List α) (bs : List β) :
    collect f as = .ok bs ↔ List.Forall₂ (fun a b => f a = .ok b) as bs := by
  induction as generalizing bs with
  | nil => cases bs <;> simp [collect]
  | cons a as ih =>
    cases bs with
    | nil =>
      refine ⟨fun h => ?_, fun h => by cases h⟩
      rw [collect] at h
      split at h
      · cases h
      · split at h <;> cases h
    | cons b bs =>
      rw [List.forall₂_cons, ← ih, collect]
      cases f a with
      | error e => simp
      | ok x =>
        cases collect f as with
        | error e => simp
        | ok xs => simp

/-- `collect` fails with the first error. -/
theorem collect_eq_error {ε α β : Type} (f : α → Except ε β) (as : List α) (e : ε) (h : collect f as = .error e) :
    ∃ pre a post, as = pre ++ a :: post ∧ f a = .error e ∧ ∀ x ∈ pre, ∃ b, f x = .ok b := by
  induction as with
  | nil => cases h
  | cons a as ih =>
    rw [collect] at h
    cases hf : f a with
    | error e' =>
      rw [hf] at h
      cases h
      exact ⟨[], a, as, rfl, hf, by simp⟩
    | ok b =>
      rw [hf] at h
      cases hc : collect f as with
      | ok bs => rw [hc] at h; cases h
      | error e' =>
        rw [hc] at h
        cases h
        obtain ⟨pre, a', post, rfl, ha, hp⟩ := ih hc
        exact ⟨a :: pre, a', post, rfl, ha, by simpa [hf] using hp⟩

/-- `collect` over a part that fails and a part whatever: the first error decides. -/
theorem collect_of_error {ε α β : Type} {f : α → Except ε β} {pre post : List α} {a : α} {e : ε}
    (hp : ∀ x ∈ pre, ∃ b, f x = .ok b) (h : f a = .error e) : collect f (pre ++ a :: post) = .error e := by
  induction pre with
  | nil => simp [collect, h]
  | cons x pre ih =>
    obtain ⟨b, hb⟩ := hp x (by simp)
    simp [collect, hb, ih fun y hy => hp y (by simp [hy])]

/-- Over the numbers from `first`, `collect` fails exactly with the error of the first that has one. -/
theorem collect_range'_eq_error {ε β : Type} (f : Nat → Except ε β) (first count : Nat) (e : ε) :
    collect f (List.range' first count) = .error e ↔
      ∃ i, first ≤ i ∧ i < first + count ∧ f i = .error e ∧ ∀ j, first ≤ j → j < i → ∃ b, f j = .ok b := by
  constructor
  · intro h
    obtain ⟨pre, a, post, hl, ha, hp⟩ := collect_eq_error _ _ _ h
    have hlen : pre.length < count := by
      have := congrArg List.length hl; simp at this; omega
    have hget : ∀ k, k < count → (pre ++ a :: post)[k]? = some (first + k) := by
      intro k hk; rw [← hl]; simp [hk]
    have ha' : a = first + pre.length := by
      have := hget _ hlen; simpa using this
    refine ⟨a, by omega, by omega, ha, ?_⟩
    intro j hj hja
    apply hp
    have := hget (j - first) (by omega)
    rw [List.getElem?_append_left (by omega)] at this
    rw [show first + (j - first) = j by omega] at this
    exact List.mem_of_getElem? this
  · rintro ⟨i, h1, h2, h3, h4⟩
    have : List.range' first count = List.range' first (i - first) ++ i :: List.range' (i + 1) (first + count - i - 1) := by
      rw [show count = (i - first) + ((first + count - i - 1) + 1) by omega, ← List.range'_append_1, List.range'_succ]
      simp [show first + (i - first) = i by omega]
      congr 1; omega
    rw [this]
    apply collect_of_error _ h3
    intro j hj
    rw [List.mem_range'_1] at hj
    exact h4 j (by omega) (by omega)

/-- Over the numbers from `first`, `collect` succeeds exactly with the values one by one. -/
theorem collect_range'_eq_ok {ε β : Type} (f : Nat → Except ε β) (first count : Nat) (bs : List β) :
    collect f (List.range' first count) = .ok bs ↔
      bs.length = count ∧ ∀ i b, bs[i]? = some b → f (first + i) = .ok b := by
  rw [collect_eq_ok, List.forall₂_iff_get]
  simp only [List.length_range', List.get_eq_getElem, List.getElem_range']
  constructor
  · rintro ⟨h1, h2⟩
    refine ⟨h1.symm, fun i b hb => ?_⟩
    obtain ⟨hi, rfl⟩ := List.getElem?_eq_some_iff.1 hb
    simpa using h2 i (by omega) hi
  · rintro ⟨h1, h2⟩
    exact ⟨h1.symm, fun i hi hi' => by simpa using h2 i _ (List.getElem?_eq_some_iff.2 ⟨hi', rfl⟩)⟩

theorem earliestMax_eq_none (ps : List (Nat × Rat)) : earliestMax ps = none ↔ ps = [] := by
  cases ps with
  | nil => simp [earliestMax]
  | cons p ps =>
    simp only [earliestMax, reduceCtorEq, iff_false]
    split
    · simp
    · split_ifs <;> simp

/-- The peak is in the list, no value is above it, and among equal values its key comes first. -/
theorem earliestMax_eq_some {ps : List (Nat × Rat)} {m : Nat × Rat} (h : earliestMax ps = some m)
    (hs : ps.Pairwise fun a b => a.1 < b.1) :
    m ∈ ps ∧ ∀ p ∈ ps, p.2 ≤ m.2 ∧ (p.2 = m.2 → m.1 ≤ p.1) := by
  induction ps generalizing m with
  | nil => cases h
  | cons p ps ih =>
    rw [List.pairwise_cons] at hs
    rw [earliestMax] at h
    cases hm : earliestMax ps with
    | none =>
      rw [hm] at h
      cases h
      rw [(earliestMax_eq_none ps).1 hm]
      simp
    | some q =>
      rw [hm] at h
      obtain ⟨hq, hall⟩ := ih hm hs.2
      simp only at h
      split_ifs at h with hle
      · cases h
        refine ⟨by simp, ?_⟩
        intro r hr
        rcases List.mem_cons.1 hr with rfl | hr
        · simp
        · exact ⟨(hall r hr).1.trans hle, fun _ => (hs.1 r hr).le⟩
      · cases h
        refine ⟨by simp [hq], ?_⟩
        intro r hr
        rcases List.mem_cons.1 hr with rfl | hr
        · exact ⟨(not_le.1 hle).le, fun he => absurd he.ge hle⟩
        · exact hall r hr

/-- The candidate offsets come in increasing order. -/
theorem candidates_pairwise (rx tpl : List Sample) : (candidates rx tpl).Pairwise fun a b => a.1 < b.1 := by
  rw [candidates, List.pairwise_map]
  exact List.pairwise_lt_range

/-! ### Operand checks -/

theorem firstNotBelow_eq_none (bound : Nat) (xs : List Nat) :
    firstNotBelow bound xs = none ↔ ∀ x ∈ xs, x < bound := by
  simp [firstNotBelow, List.findIdx?_eq_none_iff]

theorem firstNotBelow_eq_some (bound k : Nat) (xs : List Nat) :
    firstNotBelow bound xs = some k ↔
      (∃ x, xs[k]? = some x ∧ bound ≤ x) ∧ ∀ j y, j < k → xs[j]? = some y → y < bound := by
  rw [firstNotBelow, List.findIdx?_eq_some_iff_getElem]
  constructor
  · rintro ⟨hk, hb, hj⟩
    refine ⟨⟨xs[k], List.getElem?_eq_getElem hk, by simpa using hb⟩, ?_⟩
    intro j y hjk hy
    have := hj j hjk
    obtain ⟨hlt, rfl⟩ := List.getElem?_eq_some_iff.1 hy
    simpa using this
  · rintro ⟨⟨x, hx, hb⟩, hj⟩
    obtain ⟨hk, rfl⟩ := List.getElem?_eq_some_iff.1 hx
    refine ⟨hk, by simpa using hb, ?_⟩
    intro j hjk
    simpa using hj j _ hjk (List.getElem?_eq_getElem (by omega))

@[simp] theorem writtenElements_map_some (v : BandVector) : writtenElements (v.map some) = some v := by
  induction v with
  | nil => rfl
  | cons d ds ih => simp [writtenElements, ih]

theorem writtenElements_eq_some (l : List (Option Nat)) (v : BandVector) :
    writtenElements l = some v ↔ l = v.map some := by
  constructor
  · intro h
    induction l generalizing v with
    | nil => cases h; rfl
    | cons a l ih =>
      cases a with
      | none => cases h
      | some d =>
        simp only [writtenElements, Option.map_eq_some_iff] at h
        obtain ⟨w, hw, rfl⟩ := h
        simp [ih w hw]
  · rintro rfl
    simp

/-- A vector is read exactly when `SV_VALID` is set and every element is written (rule R31). -/
theorem svValue_eq_some (s : State) (v : BandVector) :
    s.svValue = some v ↔ s.flag .svValid = true ∧ s.sv = v.map some := by
  unfold State.svValue
  split_ifs with h <;> simp [h, writtenElements_eq_some]

theorem natOf_eq_some (v : Rat) (n : Nat) : natOf v = some n ↔ v = (n : Rat) := by
  unfold natOf
  constructor
  · intro h
    split_ifs at h with hc
    obtain ⟨hd, hn⟩ := hc
    have : v.num.toNat = n := Option.some_injective _ h
    rw [← Rat.num_div_den v, hd, ← this]
    have h2 : ((v.num.toNat : Nat) : Int) = v.num := Int.toNat_of_nonneg hn
    have h3 : ((v.num.toNat : Nat) : Rat) = ((v.num : Int) : Rat) := by rw [← h2]; rfl
    rw [h3]; simp
  · rintro rfl
    simp

@[simp] theorem natOf_natCast (n : Nat) : natOf (n : Rat) = some n := (natOf_eq_some _ _).2 rfl

end Sys2Proof.Machine
end

