-- ==== Sys2Proof/Laws/Deriver.lean ====
section
/-! SUPPORT. What `derive` answers, said once (rule R92). -/

namespace Sys2Proof.Machine

/-- For a positive duration the count is the rounded product itself (rules R28, R92). -/
theorem sampleCount_eq {a b : Rat} (ha : 0 < a) (hb : 0 < b) : (sampleCount a b : Int) = roundHE (a * b) := by
  have := roundHE_nonneg (x := a * b) (by positivity)
  simp [sampleCount, this]

/-- `derive` accepts exactly the configurations that pass its five checks, and answers step 6's geometry. -/
theorem derive_eq_ok (c : ConfigRegs) (cap : Capacity) (g : Geometry) :
    derive c cap = .ok g ↔
      (0 < c.sampleRate ∧ 0 < c.symbolDuration ∧ c.bandCount ≠ 0 ∧ 0 < c.step ∧ 0 < c.preDuration) ∧
      (sampleCount c.sampleRate c.symbolDuration ≠ 0 ∧ sampleCount c.sampleRate c.preDuration ≠ 0) ∧
      1 / c.symbolDuration ≤ c.step ∧ 2 ≤ c.statesPerBand ∧ fits c.bandCount cap = true ∧ g = c.geometry := by
  unfold derive
  split_ifs with h1 h2 h3 h4 h5
  · simp only [false_iff, not_and]
    intro h
    rcases h1 with h1 | h1 | h1 | h1 | h1
    · exact absurd h.1 (not_lt.2 h1)
    · exact absurd h.2.1 (not_lt.2 h1)
    · exact absurd h1 h.2.2.1
    · exact absurd h.2.2.2.1 (not_lt.2 h1)
    · exact absurd h.2.2.2.2 (not_lt.2 h1)
  · simp only [false_iff]
    rintro ⟨-, ⟨a, b⟩, -⟩
    exact h2.elim a b
  · simp only [false_iff]
    rintro ⟨-, -, a, -⟩
    exact absurd a (not_le.2 h3)
  · simp only [false_iff]
    rintro ⟨-, -, -, a, -⟩
    exact absurd a (not_le.2 h4)
  · simp only [false_iff]
    rintro ⟨-, -, -, -, a, -⟩
    simp [h5] at a
  · simp only [not_or, not_le, not_lt] at h1 h2 h3 h4
    have h5' : fits c.bandCount cap = true := by simpa using h5
    simp only [Except.ok.injEq]
    exact ⟨fun h => ⟨h1, h2, h3, h4, h5', h.symm⟩, fun h => h.2.2.2.2.2.symm⟩

end Sys2Proof.Machine
end

