-- ==== Sys2Proof/Laws/Encoding.lean ====
section
/-! SUPPORT. The fields of the command word (rule R70): what they are as numbers, and that a word is its two fields. -/

namespace Sys2Proof

theorem opField_toNat (c : Word) : (opField c).toNat = c.toNat / 2 ^ 24 := by
  have := c.isLt
  simp [opField, Nat.shiftRight_eq_div_pow]; omega

theorem immField_toNat (c : Word) : (immField c).toNat = c.toNat % 2 ^ 24 := by simp [immField]

theorem append_toNat (op : BitVec 8) (imm : BitVec 24) : (op ++ imm).toNat = op.toNat * 2 ^ 24 + imm.toNat := by
  rw [BitVec.toNat_append, ← Nat.shiftLeft_add_eq_or_of_lt imm.isLt, Nat.shiftLeft_eq]

@[simp] theorem opField_append (op : BitVec 8) (imm : BitVec 24) : opField (op ++ imm) = op := by
  apply BitVec.eq_of_toNat_eq
  have := imm.isLt
  rw [opField_toNat, append_toNat]
  omega

@[simp] theorem immField_append (op : BitVec 8) (imm : BitVec 24) : immField (op ++ imm) = imm := by
  apply BitVec.eq_of_toNat_eq
  have := imm.isLt
  rw [immField_toNat, append_toNat]
  omega

theorem append_fields (c : Word) : opField c ++ immField c = c := by
  apply BitVec.eq_of_toNat_eq
  rw [append_toNat, opField_toNat, immField_toNat]
  omega

end Sys2Proof
end

