-- ==== Sys2Proof/Laws/Numerics.lean ====
section
/-! SUPPORT. What the named properties of rule R8 admit. -/

namespace Sys2Proof

/-- The sine of an eighth of a turn is irrational, so no numerics over ℚ is the ideal one (rule R8: "not executable over
ℚ"). -/
theorem Numerics.not_npIdeal (n : Numerics) : ¬n.NPIdeal := by
  intro h
  have h8 := (h (1 / 8)).1
  rw [show 2 * Real.pi * ((1 / 8 : Rat) : ℝ) = Real.pi / 4 by push_cast; ring, Real.sin_pi_div_four] at h8
  exact irrational_sqrt_two ⟨2 * n.sinturn (1 / 8), by push_cast; linarith⟩

end Sys2Proof
end

