-- ==== Sys2Proof/Laws/State.lean ====
section
/-! SUPPORT. One lemma per field per update of the state, each true by unfolding the update once, so that no later
proof unfolds a record update; and what each update does to the flags. -/

namespace Sys2Proof.Machine

/-! ### `setFlag` -/

@[simp] theorem setFlag_cfg (s : State) (f : Flag) : (s.setFlag f).cfg = s.cfg := rfl
@[simp] theorem setFlag_arg0 (s : State) (f : Flag) : (s.setFlag f).arg0 = s.arg0 := rfl
@[simp] theorem setFlag_geo (s : State) (f : Flag) : (s.setFlag f).geo = s.geo := rfl
@[simp] theorem setFlag_sync (s : State) (f : Flag) : (s.setFlag f).sync = s.sync := rfl
@[simp] theorem setFlag_sv (s : State) (f : Flag) : (s.setFlag f).sv = s.sv := rfl
@[simp] theorem setFlag_status (s : State) (f : Flag) : (s.setFlag f).status = s.status ||| f.mask := rfl
@[simp] theorem setFlag_result (s : State) (f : Flag) : (s.setFlag f).result = s.result := rfl
@[simp] theorem setFlag_errlog (s : State) (f : Flag) : (s.setFlag f).errlog = s.errlog := rfl
@[simp] theorem setFlag_errinfo (s : State) (f : Flag) : (s.setFlag f).errinfo = s.errinfo := rfl
@[simp] theorem setFlag_cmd (s : State) (f : Flag) : (s.setFlag f).cmd = s.cmd := rfl
@[simp] theorem setFlag_payload (s : State) (f : Flag) : (s.setFlag f).payload = s.payload := rfl
@[simp] theorem setFlag_fbits (s : State) (f : Flag) : (s.setFlag f).fbits = s.fbits := rfl
@[simp] theorem setFlag_syms (s : State) (f : Flag) : (s.setFlag f).syms = s.syms := rfl
@[simp] theorem setFlag_tpl (s : State) (f : Flag) : (s.setFlag f).tpl = s.tpl := rfl
@[simp] theorem setFlag_txs (s : State) (f : Flag) : (s.setFlag f).txs = s.txs := rfl
@[simp] theorem setFlag_rxs (s : State) (f : Flag) : (s.setFlag f).rxs = s.rxs := rfl
@[simp] theorem setFlag_caps (s : State) (f : Flag) : (s.setFlag f).caps = s.caps := rfl
@[simp] theorem setFlag_pending (s : State) (f : Flag) : (s.setFlag f).pending = s.pending := rfl
@[simp] theorem setFlag_answer (s : State) (f : Flag) : (s.setFlag f).answer = s.answer := rfl

/-! ### `clearFlag` -/

@[simp] theorem clearFlag_cfg (s : State) (f : Flag) : (s.clearFlag f).cfg = s.cfg := rfl
@[simp] theorem clearFlag_arg0 (s : State) (f : Flag) : (s.clearFlag f).arg0 = s.arg0 := rfl
@[simp] theorem clearFlag_geo (s : State) (f : Flag) : (s.clearFlag f).geo = s.geo := rfl
@[simp] theorem clearFlag_sync (s : State) (f : Flag) : (s.clearFlag f).sync = s.sync := rfl
@[simp] theorem clearFlag_sv (s : State) (f : Flag) : (s.clearFlag f).sv = s.sv := rfl
@[simp] theorem clearFlag_status (s : State) (f : Flag) : (s.clearFlag f).status = s.status &&& ~~~f.mask := rfl
@[simp] theorem clearFlag_result (s : State) (f : Flag) : (s.clearFlag f).result = s.result := rfl
@[simp] theorem clearFlag_errlog (s : State) (f : Flag) : (s.clearFlag f).errlog = s.errlog := rfl
@[simp] theorem clearFlag_errinfo (s : State) (f : Flag) : (s.clearFlag f).errinfo = s.errinfo := rfl
@[simp] theorem clearFlag_cmd (s : State) (f : Flag) : (s.clearFlag f).cmd = s.cmd := rfl
@[simp] theorem clearFlag_payload (s : State) (f : Flag) : (s.clearFlag f).payload = s.payload := rfl
@[simp] theorem clearFlag_fbits (s : State) (f : Flag) : (s.clearFlag f).fbits = s.fbits := rfl
@[simp] theorem clearFlag_syms (s : State) (f : Flag) : (s.clearFlag f).syms = s.syms := rfl
@[simp] theorem clearFlag_tpl (s : State) (f : Flag) : (s.clearFlag f).tpl = s.tpl := rfl
@[simp] theorem clearFlag_txs (s : State) (f : Flag) : (s.clearFlag f).txs = s.txs := rfl
@[simp] theorem clearFlag_rxs (s : State) (f : Flag) : (s.clearFlag f).rxs = s.rxs := rfl
@[simp] theorem clearFlag_caps (s : State) (f : Flag) : (s.clearFlag f).caps = s.caps := rfl
@[simp] theorem clearFlag_pending (s : State) (f : Flag) : (s.clearFlag f).pending = s.pending := rfl
@[simp] theorem clearFlag_answer (s : State) (f : Flag) : (s.clearFlag f).answer = s.answer := rfl

/-! ### `succeed` -/

@[simp] theorem succeed_cfg (s : State) : (succeed s).cfg = s.cfg := rfl
@[simp] theorem succeed_arg0 (s : State) : (succeed s).arg0 = s.arg0 := rfl
@[simp] theorem succeed_geo (s : State) : (succeed s).geo = s.geo := rfl
@[simp] theorem succeed_sync (s : State) : (succeed s).sync = s.sync := rfl
@[simp] theorem succeed_sv (s : State) : (succeed s).sv = s.sv := rfl
@[simp] theorem succeed_status (s : State) : (succeed s).status = s.status := rfl
@[simp] theorem succeed_result (s : State) : (succeed s).result = ResultCode.ok.resultWord := rfl
@[simp] theorem succeed_errlog (s : State) : (succeed s).errlog = s.errlog := rfl
@[simp] theorem succeed_errinfo (s : State) : (succeed s).errinfo = s.errinfo := rfl
@[simp] theorem succeed_cmd (s : State) : (succeed s).cmd = s.cmd := rfl
@[simp] theorem succeed_payload (s : State) : (succeed s).payload = s.payload := rfl
@[simp] theorem succeed_fbits (s : State) : (succeed s).fbits = s.fbits := rfl
@[simp] theorem succeed_syms (s : State) : (succeed s).syms = s.syms := rfl
@[simp] theorem succeed_tpl (s : State) : (succeed s).tpl = s.tpl := rfl
@[simp] theorem succeed_txs (s : State) : (succeed s).txs = s.txs := rfl
@[simp] theorem succeed_rxs (s : State) : (succeed s).rxs = s.rxs := rfl
@[simp] theorem succeed_caps (s : State) : (succeed s).caps = s.caps := rfl
@[simp] theorem succeed_pending (s : State) : (succeed s).pending = s.pending := rfl
@[simp] theorem succeed_answer (s : State) : (succeed s).answer = s.answer := rfl

/-! ### `raiseAt` -/

@[simp] theorem raiseAt_cfg (e : ResultCode) (info : BitVec 8) (i : Nat) (s : State) : (raiseAt e info i s).cfg = s.cfg := rfl
@[simp] theorem raiseAt_arg0 (e : ResultCode) (info : BitVec 8) (i : Nat) (s : State) : (raiseAt e info i s).arg0 = s.arg0 := rfl
@[simp] theorem raiseAt_geo (e : ResultCode) (info : BitVec 8) (i : Nat) (s : State) : (raiseAt e info i s).geo = s.geo := rfl
@[simp] theorem raiseAt_sync (e : ResultCode) (info : BitVec 8) (i : Nat) (s : State) : (raiseAt e info i s).sync = s.sync := rfl
@[simp] theorem raiseAt_sv (e : ResultCode) (info : BitVec 8) (i : Nat) (s : State) : (raiseAt e info i s).sv = s.sv := rfl
@[simp] theorem raiseAt_status (e : ResultCode) (info : BitVec 8) (i : Nat) (s : State) : (raiseAt e info i s).status = if e = .configError then s.status ||| Flag.halted.mask else s.status := rfl
@[simp] theorem raiseAt_result (e : ResultCode) (info : BitVec 8) (i : Nat) (s : State) : (raiseAt e info i s).result = e.resultWord := rfl
@[simp] theorem raiseAt_errlog (e : ResultCode) (info : BitVec 8) (i : Nat) (s : State) : (raiseAt e info i s).errlog = s.errlog ||| e.logMask := rfl
@[simp] theorem raiseAt_errinfo (e : ResultCode) (info : BitVec 8) (i : Nat) (s : State) : (raiseAt e info i s).errinfo = errinfoWord info i := rfl
@[simp] theorem raiseAt_cmd (e : ResultCode) (info : BitVec 8) (i : Nat) (s : State) : (raiseAt e info i s).cmd = s.cmd := rfl
@[simp] theorem raiseAt_payload (e : ResultCode) (info : BitVec 8) (i : Nat) (s : State) : (raiseAt e info i s).payload = s.payload := rfl
@[simp] theorem raiseAt_fbits (e : ResultCode) (info : BitVec 8) (i : Nat) (s : State) : (raiseAt e info i s).fbits = s.fbits := rfl
@[simp] theorem raiseAt_syms (e : ResultCode) (info : BitVec 8) (i : Nat) (s : State) : (raiseAt e info i s).syms = s.syms := rfl
@[simp] theorem raiseAt_tpl (e : ResultCode) (info : BitVec 8) (i : Nat) (s : State) : (raiseAt e info i s).tpl = s.tpl := rfl
@[simp] theorem raiseAt_txs (e : ResultCode) (info : BitVec 8) (i : Nat) (s : State) : (raiseAt e info i s).txs = s.txs := rfl
@[simp] theorem raiseAt_rxs (e : ResultCode) (info : BitVec 8) (i : Nat) (s : State) : (raiseAt e info i s).rxs = s.rxs := rfl
@[simp] theorem raiseAt_caps (e : ResultCode) (info : BitVec 8) (i : Nat) (s : State) : (raiseAt e info i s).caps = s.caps := rfl
@[simp] theorem raiseAt_pending (e : ResultCode) (info : BitVec 8) (i : Nat) (s : State) : (raiseAt e info i s).pending = s.pending := rfl
@[simp] theorem raiseAt_answer (e : ResultCode) (info : BitVec 8) (i : Nat) (s : State) : (raiseAt e info i s).answer = s.answer := rfl

/-! ### `writeSv` -/

@[simp] theorem writeSv_cfg (s : State) (v : BandVector) : (s.writeSv v).cfg = s.cfg := rfl
@[simp] theorem writeSv_arg0 (s : State) (v : BandVector) : (s.writeSv v).arg0 = s.arg0 := rfl
@[simp] theorem writeSv_geo (s : State) (v : BandVector) : (s.writeSv v).geo = s.geo := rfl
@[simp] theorem writeSv_sync (s : State) (v : BandVector) : (s.writeSv v).sync = s.sync := rfl
@[simp] theorem writeSv_sv (s : State) (v : BandVector) : (s.writeSv v).sv = v.map some := rfl
@[simp] theorem writeSv_status (s : State) (v : BandVector) : (s.writeSv v).status = s.status ||| Flag.svValid.mask := rfl
@[simp] theorem writeSv_result (s : State) (v : BandVector) : (s.writeSv v).result = s.result := rfl
@[simp] theorem writeSv_errlog (s : State) (v : BandVector) : (s.writeSv v).errlog = s.errlog := rfl
@[simp] theorem writeSv_errinfo (s : State) (v : BandVector) : (s.writeSv v).errinfo = s.errinfo := rfl
@[simp] theorem writeSv_cmd (s : State) (v : BandVector) : (s.writeSv v).cmd = s.cmd := rfl
@[simp] theorem writeSv_payload (s : State) (v : BandVector) : (s.writeSv v).payload = s.payload := rfl
@[simp] theorem writeSv_fbits (s : State) (v : BandVector) : (s.writeSv v).fbits = s.fbits := rfl
@[simp] theorem writeSv_syms (s : State) (v : BandVector) : (s.writeSv v).syms = s.syms := rfl
@[simp] theorem writeSv_tpl (s : State) (v : BandVector) : (s.writeSv v).tpl = s.tpl := rfl
@[simp] theorem writeSv_txs (s : State) (v : BandVector) : (s.writeSv v).txs = s.txs := rfl
@[simp] theorem writeSv_rxs (s : State) (v : BandVector) : (s.writeSv v).rxs = s.rxs := rfl
@[simp] theorem writeSv_caps (s : State) (v : BandVector) : (s.writeSv v).caps = s.caps := rfl
@[simp] theorem writeSv_pending (s : State) (v : BandVector) : (s.writeSv v).pending = s.pending := rfl
@[simp] theorem writeSv_answer (s : State) (v : BandVector) : (s.writeSv v).answer = s.answer := rfl

/-! ### `invalidateSv` -/

@[simp] theorem invalidateSv_cfg (s : State) : (s.invalidateSv).cfg = s.cfg := rfl
@[simp] theorem invalidateSv_arg0 (s : State) : (s.invalidateSv).arg0 = s.arg0 := rfl
@[simp] theorem invalidateSv_geo (s : State) : (s.invalidateSv).geo = s.geo := rfl
@[simp] theorem invalidateSv_sync (s : State) : (s.invalidateSv).sync = s.sync := rfl
@[simp] theorem invalidateSv_sv (s : State) : (s.invalidateSv).sv = List.replicate s.sv.length none := rfl
@[simp] theorem invalidateSv_status (s : State) : (s.invalidateSv).status = s.status &&& ~~~Flag.svValid.mask := rfl
@[simp] theorem invalidateSv_result (s : State) : (s.invalidateSv).result = s.result := rfl
@[simp] theorem invalidateSv_errlog (s : State) : (s.invalidateSv).errlog = s.errlog := rfl
@[simp] theorem invalidateSv_errinfo (s : State) : (s.invalidateSv).errinfo = s.errinfo := rfl
@[simp] theorem invalidateSv_cmd (s : State) : (s.invalidateSv).cmd = s.cmd := rfl
@[simp] theorem invalidateSv_payload (s : State) : (s.invalidateSv).payload = s.payload := rfl
@[simp] theorem invalidateSv_fbits (s : State) : (s.invalidateSv).fbits = s.fbits := rfl
@[simp] theorem invalidateSv_syms (s : State) : (s.invalidateSv).syms = s.syms := rfl
@[simp] theorem invalidateSv_tpl (s : State) : (s.invalidateSv).tpl = s.tpl := rfl
@[simp] theorem invalidateSv_txs (s : State) : (s.invalidateSv).txs = s.txs := rfl
@[simp] theorem invalidateSv_rxs (s : State) : (s.invalidateSv).rxs = s.rxs := rfl
@[simp] theorem invalidateSv_caps (s : State) : (s.invalidateSv).caps = s.caps := rfl
@[simp] theorem invalidateSv_pending (s : State) : (s.invalidateSv).pending = s.pending := rfl
@[simp] theorem invalidateSv_answer (s : State) : (s.invalidateSv).answer = s.answer := rfl

/-! ### `setSync` -/

@[simp] theorem setSync_cfg (s : State) (k : Nat) (p : Rat) (d : Nat) : (s.setSync k p d).cfg = s.cfg := rfl
@[simp] theorem setSync_arg0 (s : State) (k : Nat) (p : Rat) (d : Nat) : (s.setSync k p d).arg0 = s.arg0 := rfl
@[simp] theorem setSync_geo (s : State) (k : Nat) (p : Rat) (d : Nat) : (s.setSync k p d).geo = s.geo := rfl
@[simp] theorem setSync_sync (s : State) (k : Nat) (p : Rat) (d : Nat) : (s.setSync k p d).sync = ⟨k, p, d⟩ := rfl
@[simp] theorem setSync_sv (s : State) (k : Nat) (p : Rat) (d : Nat) : (s.setSync k p d).sv = s.sv := rfl
@[simp] theorem setSync_status (s : State) (k : Nat) (p : Rat) (d : Nat) : (s.setSync k p d).status = s.status ||| Flag.synced.mask := rfl
@[simp] theorem setSync_result (s : State) (k : Nat) (p : Rat) (d : Nat) : (s.setSync k p d).result = s.result := rfl
@[simp] theorem setSync_errlog (s : State) (k : Nat) (p : Rat) (d : Nat) : (s.setSync k p d).errlog = s.errlog := rfl
@[simp] theorem setSync_errinfo (s : State) (k : Nat) (p : Rat) (d : Nat) : (s.setSync k p d).errinfo = s.errinfo := rfl
@[simp] theorem setSync_cmd (s : State) (k : Nat) (p : Rat) (d : Nat) : (s.setSync k p d).cmd = s.cmd := rfl
@[simp] theorem setSync_payload (s : State) (k : Nat) (p : Rat) (d : Nat) : (s.setSync k p d).payload = s.payload := rfl
@[simp] theorem setSync_fbits (s : State) (k : Nat) (p : Rat) (d : Nat) : (s.setSync k p d).fbits = s.fbits := rfl
@[simp] theorem setSync_syms (s : State) (k : Nat) (p : Rat) (d : Nat) : (s.setSync k p d).syms = s.syms := rfl
@[simp] theorem setSync_tpl (s : State) (k : Nat) (p : Rat) (d : Nat) : (s.setSync k p d).tpl = s.tpl := rfl
@[simp] theorem setSync_txs (s : State) (k : Nat) (p : Rat) (d : Nat) : (s.setSync k p d).txs = s.txs := rfl
@[simp] theorem setSync_rxs (s : State) (k : Nat) (p : Rat) (d : Nat) : (s.setSync k p d).rxs = s.rxs := rfl
@[simp] theorem setSync_caps (s : State) (k : Nat) (p : Rat) (d : Nat) : (s.setSync k p d).caps = s.caps := rfl
@[simp] theorem setSync_pending (s : State) (k : Nat) (p : Rat) (d : Nat) : (s.setSync k p d).pending = s.pending := rfl
@[simp] theorem setSync_answer (s : State) (k : Nat) (p : Rat) (d : Nat) : (s.setSync k p d).answer = s.answer := rfl

/-! ### `clearSync` -/

@[simp] theorem clearSync_cfg (s : State) : (s.clearSync).cfg = s.cfg := rfl
@[simp] theorem clearSync_arg0 (s : State) : (s.clearSync).arg0 = s.arg0 := rfl
@[simp] theorem clearSync_geo (s : State) : (s.clearSync).geo = s.geo := rfl
@[simp] theorem clearSync_sync (s : State) : (s.clearSync).sync = ⟨0, 0, 0⟩ := rfl
@[simp] theorem clearSync_sv (s : State) : (s.clearSync).sv = s.sv := rfl
@[simp] theorem clearSync_status (s : State) : (s.clearSync).status = s.status &&& ~~~Flag.synced.mask := rfl
@[simp] theorem clearSync_result (s : State) : (s.clearSync).result = s.result := rfl
@[simp] theorem clearSync_errlog (s : State) : (s.clearSync).errlog = s.errlog := rfl
@[simp] theorem clearSync_errinfo (s : State) : (s.clearSync).errinfo = s.errinfo := rfl
@[simp] theorem clearSync_cmd (s : State) : (s.clearSync).cmd = s.cmd := rfl
@[simp] theorem clearSync_payload (s : State) : (s.clearSync).payload = s.payload := rfl
@[simp] theorem clearSync_fbits (s : State) : (s.clearSync).fbits = s.fbits := rfl
@[simp] theorem clearSync_syms (s : State) : (s.clearSync).syms = s.syms := rfl
@[simp] theorem clearSync_tpl (s : State) : (s.clearSync).tpl = s.tpl := rfl
@[simp] theorem clearSync_txs (s : State) : (s.clearSync).txs = s.txs := rfl
@[simp] theorem clearSync_rxs (s : State) : (s.clearSync).rxs = s.rxs := rfl
@[simp] theorem clearSync_caps (s : State) : (s.clearSync).caps = s.caps := rfl
@[simp] theorem clearSync_pending (s : State) : (s.clearSync).pending = s.pending := rfl
@[simp] theorem clearSync_answer (s : State) : (s.clearSync).answer = s.answer := rfl

/-! ### `writeTpl` -/

@[simp] theorem writeTpl_cfg (s : State) (x : List Sample) : (s.writeTpl x).cfg = s.cfg := rfl
@[simp] theorem writeTpl_arg0 (s : State) (x : List Sample) : (s.writeTpl x).arg0 = s.arg0 := rfl
@[simp] theorem writeTpl_geo (s : State) (x : List Sample) : (s.writeTpl x).geo = s.geo := rfl
@[simp] theorem writeTpl_sync (s : State) (x : List Sample) : (s.writeTpl x).sync = s.sync := rfl
@[simp] theorem writeTpl_sv (s : State) (x : List Sample) : (s.writeTpl x).sv = s.sv := rfl
@[simp] theorem writeTpl_status (s : State) (x : List Sample) : (s.writeTpl x).status = s.status ||| Flag.tplValid.mask := rfl
@[simp] theorem writeTpl_result (s : State) (x : List Sample) : (s.writeTpl x).result = s.result := rfl
@[simp] theorem writeTpl_errlog (s : State) (x : List Sample) : (s.writeTpl x).errlog = s.errlog := rfl
@[simp] theorem writeTpl_errinfo (s : State) (x : List Sample) : (s.writeTpl x).errinfo = s.errinfo := rfl
@[simp] theorem writeTpl_cmd (s : State) (x : List Sample) : (s.writeTpl x).cmd = s.cmd := rfl
@[simp] theorem writeTpl_payload (s : State) (x : List Sample) : (s.writeTpl x).payload = s.payload := rfl
@[simp] theorem writeTpl_fbits (s : State) (x : List Sample) : (s.writeTpl x).fbits = s.fbits := rfl
@[simp] theorem writeTpl_syms (s : State) (x : List Sample) : (s.writeTpl x).syms = s.syms := rfl
@[simp] theorem writeTpl_tpl (s : State) (x : List Sample) : (s.writeTpl x).tpl = x := rfl
@[simp] theorem writeTpl_txs (s : State) (x : List Sample) : (s.writeTpl x).txs = s.txs := rfl
@[simp] theorem writeTpl_rxs (s : State) (x : List Sample) : (s.writeTpl x).rxs = s.rxs := rfl
@[simp] theorem writeTpl_caps (s : State) (x : List Sample) : (s.writeTpl x).caps = s.caps := rfl
@[simp] theorem writeTpl_pending (s : State) (x : List Sample) : (s.writeTpl x).pending = s.pending := rfl
@[simp] theorem writeTpl_answer (s : State) (x : List Sample) : (s.writeTpl x).answer = s.answer := rfl

/-! ### `writeFrame` -/

@[simp] theorem writeFrame_cfg (s : State) (x : List Nat) (f p : List Bit) : (s.writeFrame x f p).cfg = s.cfg := rfl
@[simp] theorem writeFrame_arg0 (s : State) (x : List Nat) (f p : List Bit) : (s.writeFrame x f p).arg0 = s.arg0 := rfl
@[simp] theorem writeFrame_geo (s : State) (x : List Nat) (f p : List Bit) : (s.writeFrame x f p).geo = s.geo := rfl
@[simp] theorem writeFrame_sync (s : State) (x : List Nat) (f p : List Bit) : (s.writeFrame x f p).sync = s.sync := rfl
@[simp] theorem writeFrame_sv (s : State) (x : List Nat) (f p : List Bit) : (s.writeFrame x f p).sv = s.sv := rfl
@[simp] theorem writeFrame_status (s : State) (x : List Nat) (f p : List Bit) : (s.writeFrame x f p).status = s.status := rfl
@[simp] theorem writeFrame_result (s : State) (x : List Nat) (f p : List Bit) : (s.writeFrame x f p).result = s.result := rfl
@[simp] theorem writeFrame_errlog (s : State) (x : List Nat) (f p : List Bit) : (s.writeFrame x f p).errlog = s.errlog := rfl
@[simp] theorem writeFrame_errinfo (s : State) (x : List Nat) (f p : List Bit) : (s.writeFrame x f p).errinfo = s.errinfo := rfl
@[simp] theorem writeFrame_cmd (s : State) (x : List Nat) (f p : List Bit) : (s.writeFrame x f p).cmd = s.cmd := rfl
@[simp] theorem writeFrame_payload (s : State) (x : List Nat) (f p : List Bit) : (s.writeFrame x f p).payload = p := rfl
@[simp] theorem writeFrame_fbits (s : State) (x : List Nat) (f p : List Bit) : (s.writeFrame x f p).fbits = f := rfl
@[simp] theorem writeFrame_syms (s : State) (x : List Nat) (f p : List Bit) : (s.writeFrame x f p).syms = x := rfl
@[simp] theorem writeFrame_tpl (s : State) (x : List Nat) (f p : List Bit) : (s.writeFrame x f p).tpl = s.tpl := rfl
@[simp] theorem writeFrame_txs (s : State) (x : List Nat) (f p : List Bit) : (s.writeFrame x f p).txs = s.txs := rfl
@[simp] theorem writeFrame_rxs (s : State) (x : List Nat) (f p : List Bit) : (s.writeFrame x f p).rxs = s.rxs := rfl
@[simp] theorem writeFrame_caps (s : State) (x : List Nat) (f p : List Bit) : (s.writeFrame x f p).caps = s.caps := rfl
@[simp] theorem writeFrame_pending (s : State) (x : List Nat) (f p : List Bit) : (s.writeFrame x f p).pending = s.pending := rfl
@[simp] theorem writeFrame_answer (s : State) (x : List Nat) (f p : List Bit) : (s.writeFrame x f p).answer = s.answer := rfl

/-! ### `writeLastSv`, `writeReg`, `loadBuffer` -/

@[simp] theorem writeLastSv_cfg (s : State) (v : Option BandVector) : (s.writeLastSv v).cfg = s.cfg := by
  cases v <;> rfl
@[simp] theorem writeLastSv_arg0 (s : State) (v : Option BandVector) : (s.writeLastSv v).arg0 = s.arg0 := by
  cases v <;> rfl
@[simp] theorem writeLastSv_geo (s : State) (v : Option BandVector) : (s.writeLastSv v).geo = s.geo := by
  cases v <;> rfl
@[simp] theorem writeLastSv_sync (s : State) (v : Option BandVector) : (s.writeLastSv v).sync = s.sync := by
  cases v <;> rfl
@[simp] theorem writeLastSv_result (s : State) (v : Option BandVector) : (s.writeLastSv v).result = s.result := by
  cases v <;> rfl
@[simp] theorem writeLastSv_errlog (s : State) (v : Option BandVector) : (s.writeLastSv v).errlog = s.errlog := by
  cases v <;> rfl
@[simp] theorem writeLastSv_errinfo (s : State) (v : Option BandVector) : (s.writeLastSv v).errinfo = s.errinfo := by
  cases v <;> rfl
@[simp] theorem writeLastSv_cmd (s : State) (v : Option BandVector) : (s.writeLastSv v).cmd = s.cmd := by
  cases v <;> rfl
@[simp] theorem writeLastSv_payload (s : State) (v : Option BandVector) : (s.writeLastSv v).payload = s.payload := by
  cases v <;> rfl
@[simp] theorem writeLastSv_fbits (s : State) (v : Option BandVector) : (s.writeLastSv v).fbits = s.fbits := by
  cases v <;> rfl
@[simp] theorem writeLastSv_syms (s : State) (v : Option BandVector) : (s.writeLastSv v).syms = s.syms := by
  cases v <;> rfl
@[simp] theorem writeLastSv_tpl (s : State) (v : Option BandVector) : (s.writeLastSv v).tpl = s.tpl := by
  cases v <;> rfl
@[simp] theorem writeLastSv_txs (s : State) (v : Option BandVector) : (s.writeLastSv v).txs = s.txs := by
  cases v <;> rfl
@[simp] theorem writeLastSv_rxs (s : State) (v : Option BandVector) : (s.writeLastSv v).rxs = s.rxs := by
  cases v <;> rfl
@[simp] theorem writeLastSv_caps (s : State) (v : Option BandVector) : (s.writeLastSv v).caps = s.caps := by
  cases v <;> rfl
@[simp] theorem writeLastSv_pending (s : State) (v : Option BandVector) : (s.writeLastSv v).pending = s.pending := by
  cases v <;> rfl
@[simp] theorem writeLastSv_answer (s : State) (v : Option BandVector) : (s.writeLastSv v).answer = s.answer := by
  cases v <;> rfl

@[simp] theorem writeLastSv_none (s : State) : s.writeLastSv none = s := rfl
@[simp] theorem writeLastSv_some (s : State) (v : BandVector) : s.writeLastSv (some v) = s.writeSv v := rfl

@[simp] theorem writeReg_geo (s : State) (no : Nat) (v : Rat) : (s.writeReg no v).geo = s.geo := by
  unfold State.writeReg; split_ifs <;> rfl
@[simp] theorem writeReg_sync (s : State) (no : Nat) (v : Rat) : (s.writeReg no v).sync = s.sync := by
  unfold State.writeReg; split_ifs <;> rfl
@[simp] theorem writeReg_sv (s : State) (no : Nat) (v : Rat) : (s.writeReg no v).sv = s.sv := by
  unfold State.writeReg; split_ifs <;> rfl
@[simp] theorem writeReg_status (s : State) (no : Nat) (v : Rat) : (s.writeReg no v).status = s.status := by
  unfold State.writeReg; split_ifs <;> rfl
@[simp] theorem writeReg_result (s : State) (no : Nat) (v : Rat) : (s.writeReg no v).result = s.result := by
  unfold State.writeReg; split_ifs <;> rfl
@[simp] theorem writeReg_errlog (s : State) (no : Nat) (v : Rat) : (s.writeReg no v).errlog = s.errlog := by
  unfold State.writeReg; split_ifs <;> rfl
@[simp] theorem writeReg_errinfo (s : State) (no : Nat) (v : Rat) : (s.writeReg no v).errinfo = s.errinfo := by
  unfold State.writeReg; split_ifs <;> rfl
@[simp] theorem writeReg_cmd (s : State) (no : Nat) (v : Rat) : (s.writeReg no v).cmd = s.cmd := by
  unfold State.writeReg; split_ifs <;> rfl
@[simp] theorem writeReg_payload (s : State) (no : Nat) (v : Rat) : (s.writeReg no v).payload = s.payload := by
  unfold State.writeReg; split_ifs <;> rfl
@[simp] theorem writeReg_fbits (s : State) (no : Nat) (v : Rat) : (s.writeReg no v).fbits = s.fbits := by
  unfold State.writeReg; split_ifs <;> rfl
@[simp] theorem writeReg_syms (s : State) (no : Nat) (v : Rat) : (s.writeReg no v).syms = s.syms := by
  unfold State.writeReg; split_ifs <;> rfl
@[simp] theorem writeReg_tpl (s : State) (no : Nat) (v : Rat) : (s.writeReg no v).tpl = s.tpl := by
  unfold State.writeReg; split_ifs <;> rfl
@[simp] theorem writeReg_txs (s : State) (no : Nat) (v : Rat) : (s.writeReg no v).txs = s.txs := by
  unfold State.writeReg; split_ifs <;> rfl
@[simp] theorem writeReg_rxs (s : State) (no : Nat) (v : Rat) : (s.writeReg no v).rxs = s.rxs := by
  unfold State.writeReg; split_ifs <;> rfl
@[simp] theorem writeReg_caps (s : State) (no : Nat) (v : Rat) : (s.writeReg no v).caps = s.caps := by
  unfold State.writeReg; split_ifs <;> rfl
@[simp] theorem writeReg_pending (s : State) (no : Nat) (v : Rat) : (s.writeReg no v).pending = s.pending := by
  unfold State.writeReg; split_ifs <;> rfl
@[simp] theorem writeReg_answer (s : State) (no : Nat) (v : Rat) : (s.writeReg no v).answer = s.answer := by
  unfold State.writeReg; split_ifs <;> rfl

@[simp] theorem loadBuffer_cfg (s : State) (b : Buffer) (d : BufData) : (s.loadBuffer b d).cfg = s.cfg := by
  cases b <;> cases d <;> simp only [State.loadBuffer] <;> (try split_ifs) <;> rfl
@[simp] theorem loadBuffer_arg0 (s : State) (b : Buffer) (d : BufData) : (s.loadBuffer b d).arg0 = s.arg0 := by
  cases b <;> cases d <;> simp only [State.loadBuffer] <;> (try split_ifs) <;> rfl
@[simp] theorem loadBuffer_geo (s : State) (b : Buffer) (d : BufData) : (s.loadBuffer b d).geo = s.geo := by
  cases b <;> cases d <;> simp only [State.loadBuffer] <;> (try split_ifs) <;> rfl
@[simp] theorem loadBuffer_sv (s : State) (b : Buffer) (d : BufData) : (s.loadBuffer b d).sv = s.sv := by
  cases b <;> cases d <;> simp only [State.loadBuffer] <;> (try split_ifs) <;> rfl
@[simp] theorem loadBuffer_result (s : State) (b : Buffer) (d : BufData) : (s.loadBuffer b d).result = s.result := by
  cases b <;> cases d <;> simp only [State.loadBuffer] <;> (try split_ifs) <;> rfl
@[simp] theorem loadBuffer_errlog (s : State) (b : Buffer) (d : BufData) : (s.loadBuffer b d).errlog = s.errlog := by
  cases b <;> cases d <;> simp only [State.loadBuffer] <;> (try split_ifs) <;> rfl
@[simp] theorem loadBuffer_errinfo (s : State) (b : Buffer) (d : BufData) : (s.loadBuffer b d).errinfo = s.errinfo := by
  cases b <;> cases d <;> simp only [State.loadBuffer] <;> (try split_ifs) <;> rfl
@[simp] theorem loadBuffer_cmd (s : State) (b : Buffer) (d : BufData) : (s.loadBuffer b d).cmd = s.cmd := by
  cases b <;> cases d <;> simp only [State.loadBuffer] <;> (try split_ifs) <;> rfl
@[simp] theorem loadBuffer_tpl (s : State) (b : Buffer) (d : BufData) : (s.loadBuffer b d).tpl = s.tpl := by
  cases b <;> cases d <;> simp only [State.loadBuffer] <;> (try split_ifs) <;> rfl
@[simp] theorem loadBuffer_caps (s : State) (b : Buffer) (d : BufData) : (s.loadBuffer b d).caps = s.caps := by
  cases b <;> cases d <;> simp only [State.loadBuffer] <;> (try split_ifs) <;> rfl
@[simp] theorem loadBuffer_pending (s : State) (b : Buffer) (d : BufData) : (s.loadBuffer b d).pending = s.pending := by
  cases b <;> cases d <;> simp only [State.loadBuffer] <;> (try split_ifs) <;> rfl
@[simp] theorem loadBuffer_answer (s : State) (b : Buffer) (d : BufData) : (s.loadBuffer b d).answer = s.answer := by
  cases b <;> cases d <;> simp only [State.loadBuffer] <;> (try split_ifs) <;> rfl

/-! ### Flags -/

/-- A flag is a bit of `STATUS` and of nothing else. -/
theorem flag_congr (s t : State) (h : t.status = s.status) (f : Flag) : t.flag f = s.flag f := by
  simp [State.flag, h]

@[simp] theorem mask_cfgValid : Flag.cfgValid.mask = 0x01#32 := rfl
@[simp] theorem mask_halted : Flag.halted.mask = 0x02#32 := rfl
@[simp] theorem mask_tplValid : Flag.tplValid.mask = 0x04#32 := rfl
@[simp] theorem mask_svValid : Flag.svValid.mask = 0x08#32 := rfl
@[simp] theorem mask_synced : Flag.synced.mask = 0x10#32 := rfl

/-- The bits of a flag's mask: its own bit alone. -/
theorem mask_bit (f g : Flag) : f.mask.getLsbD g.bit = decide (f = g) := by
  cases f <;> cases g <;> rfl

/-- A flag's mask has no reserved bit. -/
theorem mask_reserved (f : Flag) (k : Nat) (h : 5 ≤ k) : f.mask.getLsbD k = false := by
  by_cases hk : k < 32
  · interval_cases k <;> cases f <;> rfl
  · exact BitVec.getLsbD_of_ge _ _ (by omega)

/-- What setting a bit of `STATUS` does to every flag, in the form a record update leaves. -/
theorem flag_of_or (s t : State) (g : Flag) (h : t.status = s.status ||| g.mask) (f : Flag) :
    t.flag f = (decide (g = f) || s.flag f) := by
  have := mask_bit g f
  simp only [State.flag, h, BitVec.getLsbD_or, this, Bool.or_comm]

/-- What clearing a bit of `STATUS` does to every flag, in the form a record update leaves. -/
theorem flag_of_and (s t : State) (g : Flag) (h : t.status = s.status &&& ~~~g.mask) (f : Flag) :
    t.flag f = (!decide (g = f) && s.flag f) := by
  have := mask_bit g f
  have hb : f.bit < 32 := by cases f <;> decide
  simp only [State.flag, h, BitVec.getLsbD_and, BitVec.getLsbD_not, this, hb, decide_true, Bool.true_and, Bool.and_comm]

@[simp] theorem flag_setFlag (s : State) (g f : Flag) : (s.setFlag g).flag f = (decide (g = f) || s.flag f) :=
  flag_of_or s _ g rfl f
@[simp] theorem flag_clearFlag (s : State) (g f : Flag) : (s.clearFlag g).flag f = (!decide (g = f) && s.flag f) :=
  flag_of_and s _ g rfl f
@[simp] theorem flag_succeed (s : State) (f : Flag) : (succeed s).flag f = s.flag f := rfl
@[simp] theorem flag_writeSv (s : State) (v : BandVector) (f : Flag) :
    (s.writeSv v).flag f = (decide (Flag.svValid = f) || s.flag f) := flag_of_or s _ .svValid rfl f
@[simp] theorem flag_invalidateSv (s : State) (f : Flag) :
    s.invalidateSv.flag f = (!decide (Flag.svValid = f) && s.flag f) := flag_of_and s _ .svValid rfl f
@[simp] theorem flag_setSync (s : State) (k : Nat) (p : Rat) (d : Nat) (f : Flag) :
    (s.setSync k p d).flag f = (decide (Flag.synced = f) || s.flag f) := flag_of_or s _ .synced rfl f
@[simp] theorem flag_clearSync (s : State) (f : Flag) :
    s.clearSync.flag f = (!decide (Flag.synced = f) && s.flag f) := flag_of_and s _ .synced rfl f
@[simp] theorem flag_writeTpl (s : State) (x : List Sample) (f : Flag) :
    (s.writeTpl x).flag f = (decide (Flag.tplValid = f) || s.flag f) := flag_of_or s _ .tplValid rfl f
@[simp] theorem flag_writeFrame (s : State) (x : List Nat) (b p : List Bit) (f : Flag) :
    (s.writeFrame x b p).flag f = s.flag f := rfl
@[simp] theorem flag_writeReg (s : State) (no : Nat) (v : Rat) (f : Flag) : (s.writeReg no v).flag f = s.flag f :=
  flag_congr _ _ (writeReg_status s no v) f

/-- What a failure does to every flag: only a `ConfigError` sets one, `HALTED` (rule R205). -/
theorem flag_raiseAt (e : ResultCode) (info : BitVec 8) (i : Nat) (s : State) (f : Flag) :
    (raiseAt e info i s).flag f = (decide (e = .configError ∧ Flag.halted = f) || s.flag f) := by
  by_cases h : e = .configError
  · simpa [h] using flag_of_or s (raiseAt e info i s) .halted (by simp [h]) f
  · simpa [h] using flag_congr s (raiseAt e info i s) (by simp [h]) f

end Sys2Proof.Machine
end

