-- ==== Sys2Proof/Laws/Ops.lean ====
section
/-! SUPPORT. What each shared operation answers, said once: the mode check, the configuration check, ending with success
and ending with a failure. -/

namespace Sys2Proof.Machine

/-- The mode check answers a next state always (rule R204 check 1). -/
theorem unlessHalted_eq (s b : State) : unlessHalted s b = .next (if s.flag .halted then s else b) := by
  unfold unlessHalted; split <;> rfl

/-- The configuration check answers a next state always (rule R204 checks 1 and 3). -/
theorem configured_eq (s b : State) :
    configured s b =
      .next (if s.flag .halted then s else if s.flag .cfgValid then b else raiseErr .sequenceError 1 s) := by
  rw [configured, unlessHalted_eq]

/-- Not HALTED, a command ends in its body. -/
theorem unlessHalted_of_running {s : State} (h : s.flag .halted = false) (b : State) :
    unlessHalted s b = .next b := by simp [unlessHalted_eq, h]

/-- In mode READY, a command ends in its body. -/
theorem configured_of_ready {s : State} (h : s.flag .halted = false) (hc : s.flag .cfgValid = true) (b : State) :
    configured s b = .next b := by simp [configured_eq, h, hc]

/-- In mode UNCONFIGURED, a command that needs the geometry is refused. -/
theorem configured_of_unconfigured {s : State} (h : s.flag .halted = false) (hc : s.flag .cfgValid = false) (b : State) :
    configured s b = .next (raiseErr .sequenceError 1 s) := by simp [configured_eq, h, hc]

/-- In mode HALTED nothing changes. -/
theorem configured_of_halted {s : State} (h : s.flag .halted = true) (b : State) : configured s b = .next s := by
  simp [configured_eq, h]

/-- In mode HALTED nothing changes. -/
theorem unlessHalted_of_halted {s : State} (h : s.flag .halted = true) (b : State) : unlessHalted s b = .next s := by
  simp [unlessHalted_eq, h]

theorem succeed_eq (s : State) : succeed s = { s with result := 0 } := rfl

/-- The layout of `ERRINFO` as a number (rule R37). -/
theorem errinfoWord_eq (info : BitVec 8) (i : Nat) :
    errinfoWord info i = BitVec.ofNat 32 (i % 2 ^ 24 * 2 ^ 8 + info.toNat) := by
  apply BitVec.eq_of_toNat_eq
  have h := info.isLt
  rw [errinfoWord, BitVec.toNat_append, BitVec.toNat_ofNat, BitVec.toNat_ofNat, ← Nat.shiftLeft_add_eq_or_of_lt h,
    Nat.shiftLeft_eq, Nat.mod_eq_of_lt (b := 2 ^ 32) (by omega)]

/-- A failure that is not a `ConfigError` records itself and changes nothing else (rule R205). -/
theorem raiseAt_eq_failed {e : ResultCode} (h : e ≠ .configError) (info : BitVec 8) (i : Nat) (s : State) :
    raiseAt e info i s = Safety.failed s e.number info.toNat i := by
  have hl : e.logMask = BitVec.ofNat 32 (2 ^ e.number) := by cases e <;> rfl
  simp [raiseAt, h, Safety.failed, errinfoWord_eq, hl, ResultCode.resultWord]

/-- A `ConfigError` records itself and halts the block (rules R96, R205). -/
theorem raiseAt_configError (info : BitVec 8) (i : Nat) (s : State) :
    raiseAt .configError info i s =
      { Safety.failed s 1 info.toNat i with status := s.status ||| 0x02#32 } := by
  have hl : ResultCode.configError.logMask = BitVec.ofNat 32 (2 ^ 1) := rfl
  simp [raiseAt, Safety.failed, errinfoWord_eq, hl, ResultCode.resultWord, ResultCode.number]

/-- A result word as its code. -/
theorem resultWord_toNat (e : ResultCode) : e.resultWord.toNat = e.number := by cases e <;> rfl

/-- The words of `RESULT` are apart. -/
theorem resultWord_injective {e f : ResultCode} (h : e.resultWord = f.resultWord) : e = f := by
  cases e <;> cases f <;> first | rfl | exact absurd h (by decide)

end Sys2Proof.Machine
end

