-- ==== Sys2Proof/Laws/PerInstr.lean ====
section
/-! SUPPORT. What holds of each command as syntax, one lemma per constructor: its word carries its opcode in `op` and its
operand in `imm` (rules R70, R72, R73). -/

namespace Sys2Proof.Laws.EncodedFields

/-- The word of a command a word can hold has that command's opcode and operand in its two fields. -/
def Statement (i : Instr) : Prop :=
  i.wellFormed = true → opField (encode i) = i.opcode ∧ (immField (encode i)).toNat = i.operand

/-- The statement holds of every command; each constructor's lemma below is an instance. -/
theorem holds (i : Instr) : Statement i := by
  intro h
  have hlt : i.operand < 2 ^ 24 := by simpa [Instr.wellFormed] using h
  rw [encode, opField_append, immField_append, BitVec.toNat_ofNat]
  exact ⟨rfl, Nat.mod_eq_of_lt hlt⟩

theorem nop : Statement .nop := holds _
theorem derive : Statement .derive := holds _
theorem clrerr : Statement .clrerr := holds _
theorem frame : Statement .frame := holds _
theorem pack : Statement .pack := holds _
theorem unpack : Statement .unpack := holds _
theorem deframe : Statement .deframe := holds _
theorem map (i : Nat) : Statement (.map i) := holds _
theorem unmap : Statement .unmap := holds _
theorem mod : Statement .mod := holds _
theorem demod (i : Nat) : Statement (.demod i) := holds _
theorem chirp : Statement .chirp := holds _
theorem txpre : Statement .txpre := holds _
theorem detect : Statement .detect := holds _
theorem txframe : Statement .txframe := holds _
theorem rxframe : Statement .rxframe := holds _

end Sys2Proof.Laws.EncodedFields
end

