-- ==== Sys2Proof/Laws/Tones.lean ====
section
/-! SUPPORT. What rule R158 says exactly of bins and tones: their spacings, and when the bin nearest a tone has the tone's
state. -/

namespace Sys2Proof.Machine

/-- "Adjacent bins are `sr / N` apart" (rule R158). -/
theorem binFreq_succ (c : ConfigRegs) (g : Geometry) (k : Nat) :
    binFreq c g (k + 1) - binFreq c g k = c.sampleRate / (g.nSymbol : Rat) := by
  simp only [binFreq]; push_cast; ring

/-- "Adjacent tones `step` apart" (rule R158). -/
theorem tone_succ (c : ConfigRegs) (g : Geometry) (b state : Nat) :
    tone c g b (state + 1) - tone c g b state = c.step := by
  simp only [tone]; push_cast; ring

/-- A bin "within half a step" of a tone has the tone's state: "rule R154 recovers the tone's state" (rule R158). -/
theorem nearestState_of_near {c : ConfigRegs} {g : Geometry} {b state k : Nat} (hs : 0 < c.step)
    (h : |binFreq c g k - tone c g b state| < c.step / 2) : nearestState c g b k = (state : Int) := by
  apply roundHE_of_near
  have : (binFreq c g k - bandEdge c g b) / c.step - ((state : Int) : Rat) =
      (binFreq c g k - tone c g b state) / c.step := by
    rw [tone]; push_cast; field_simp; ring
  rw [this, abs_div, abs_of_pos hs, div_lt_iff₀ hs]
  linarith

/-- Some bin is at most half a bin spacing from a frequency that is not negative (rule R158). -/
theorem exists_bin_near {c : ConfigRegs} {g : Geometry} {f : Rat} (hr : 0 < c.sampleRate) (hn : 0 < g.nSymbol)
    (hf : 0 ≤ f) : ∃ k, |binFreq c g k - f| ≤ c.sampleRate / (g.nSymbol : Rat) / 2 := by
  have hd : 0 < c.sampleRate / (g.nSymbol : Rat) := by positivity
  set d := c.sampleRate / (g.nSymbol : Rat) with hdef
  have h0 : 0 ≤ round (f / d) := by
    rw [round_eq]
    exact Int.floor_nonneg.2 (by positivity)
  refine ⟨(round (f / d)).toNat, ?_⟩
  have hk : binFreq c g (round (f / d)).toNat = (round (f / d) : Rat) * d := by
    have hc : (((round (f / d)).toNat : Nat) : Rat) = (round (f / d) : Rat) := by
      exact_mod_cast Int.toNat_of_nonneg h0
    rw [binFreq, hc, hdef]; ring
  have := abs_sub_round (f / d)
  rw [hk, abs_sub_comm, show f - (round (f / d) : Rat) * d = (f / d - round (f / d)) * d by field_simp, abs_mul,
    abs_of_pos hd]
  nlinarith

/-- Where the bins are closer than the tones, each tone that is not negative has a bin with its state (rule R158:
"normally"; the spec promises nothing where `sr / N` is `step` or more). -/
theorem exists_bin_of_tone {c : ConfigRegs} {g : Geometry} {b state : Nat} (hr : 0 < c.sampleRate) (hn : 0 < g.nSymbol)
    (hs : c.sampleRate / (g.nSymbol : Rat) < c.step) (ht : 0 ≤ tone c g b state) :
    ∃ k, |binFreq c g k - tone c g b state| < c.step / 2 ∧ nearestState c g b k = (state : Int) := by
  obtain ⟨k, hk⟩ := exists_bin_near hr hn ht
  have hd : 0 < c.sampleRate / (g.nSymbol : Rat) := by positivity
  have h : |binFreq c g k - tone c g b state| < c.step / 2 := by linarith
  exact ⟨k, h, nearestState_of_near (by linarith) h⟩

end Sys2Proof.Machine
end

