-- ==== Sys2Proof/Laws/Units.lean ====
section
/-! SUPPORT. What the units' pure functions answer, said once each: the lengths of what they build, and when the
demodulator and the detector succeed. -/

namespace Sys2Proof.Machine

@[simp] theorem length_pack (bits : List Bit) (w : Nat) : (pack bits w).length = ceilDiv bits.length w := by
  simp [pack]

@[simp] theorem length_frameBits (payload : List Bit) (lfb : Nat) :
    (frameBits payload lfb).length = lfb + payload.length := by simp [frameBits]

@[simp] theorem length_toStates (x S B : Nat) : (toStates x S B).length = B := by simp [toStates]

@[simp] theorem length_modulate (num : Numerics) (c : ConfigRegs) (g : Geometry) (v : BandVector) :
    (modulate num c g v).length = g.nSymbol := by simp [modulate]

@[simp] theorem length_chirp (num : Numerics) (c : ConfigRegs) (g : Geometry) :
    (chirp num c g).length = g.lPreamble := by simp [chirp]

theorem length_dataRegion (num : Numerics) (c : ConfigRegs) (g : Geometry) (symbols : List Nat) :
    (dataRegion num c g symbols).length = symbols.length * g.nSymbol := by
  simp [dataRegion, List.length_flatMap]

/-- A band has a state exactly when it has a peak whose nearest step is below `S` (rules R152 to R154). -/
theorem bandState_eq_ok (num : Numerics) (c : ConfigRegs) (g : Geometry) (x : List Sample) (b d : Nat) :
    bandState num c g x b = .ok d ↔
      ∃ k, peakBin num c g x b = some k ∧ nearestState c g b k < (g.statesPerBand : Int) ∧
        (nearestState c g b k).toNat = d := by
  unfold bandState
  cases h : peakBin num c g x b with
  | none => simp
  | some k =>
    simp only [Option.some.injEq, exists_eq_left']
    split_ifs with hk
    · simp [not_lt.2 hk]
    · simp [not_le.1 hk]

/-- `demodulate` succeeds exactly when every band has a state and the symbol is valid (rules R155, R156). -/
theorem demodulate_eq_ok (num : Numerics) (c : ConfigRegs) (g : Geometry) (x : List Sample) (v : BandVector) :
    demodulate num c g x = .ok v ↔
      List.Forall₂ (fun b d => bandState num c g x b = .ok d) (List.range c.bandCount) v ∧
        fromStates g.statesPerBand v < 2 ^ g.bitsPerSymbol := by
  rw [← collect_eq_ok]
  unfold demodulate
  cases h : collect (bandState num c g x) (List.range c.bandCount) with
  | error e => simp
  | ok u =>
    simp only [Except.ok.injEq]
    split_ifs with hu
    · simp only [false_iff, not_and, not_lt]
      rintro rfl
      exact hu
    · simp only [Except.ok.injEq]
      refine ⟨?_, fun h => h.1⟩
      rintro rfl
      exact ⟨rfl, not_le.1 hu⟩

/-- The bins of a band (rule R152). -/
theorem mem_bins (c : ConfigRegs) (g : Geometry) (b k : Nat) :
    k ∈ bins c g b ↔
      k ≤ g.nSymbol / 2 ∧ bandEdge c g b ≤ binFreq c g k ∧ binFreq c g k < bandEdge c g b + g.bandWidth := by
  simp [bins]

/-- A band has no peak exactly when it has no bin (rule R152). -/
theorem peakBin_eq_none (num : Numerics) (c : ConfigRegs) (g : Geometry) (x : List Sample) (b : Nat) :
    peakBin num c g x b = none ↔ ∀ k, k ∉ bins c g b := by
  simp [peakBin, earliestMax_eq_none, List.eq_nil_iff_forall_not_mem]

/-- The peak of a band is its strongest bin, the lowest on ties (rule R153). -/
theorem peakBin_eq_some (num : Numerics) (c : ConfigRegs) (g : Geometry) (x : List Sample) (b k : Nat) :
    peakBin num c g x b = some k ↔ k ∈ bins c g b ∧ ∀ j ∈ bins c g b,
      power num g.nSymbol x j ≤ power num g.nSymbol x k ∧
        (power num g.nSymbol x j = power num g.nSymbol x k → k ≤ j) := by
  have fwd : ∀ m, peakBin num c g x b = some m → m ∈ bins c g b ∧ ∀ j ∈ bins c g b,
      power num g.nSymbol x j ≤ power num g.nSymbol x m ∧
        (power num g.nSymbol x j = power num g.nSymbol x m → m ≤ j) := by
    intro m h
    obtain ⟨p, hp, rfl⟩ := Option.map_eq_some_iff.1 h
    obtain ⟨hm, hall⟩ := earliestMax_eq_some hp (by
      rw [List.pairwise_map]; exact (List.pairwise_lt_range).filter _)
    obtain ⟨q, hq, rfl⟩ := List.mem_map.1 hm
    exact ⟨hq, fun j hj => hall (j, _) (List.mem_map.2 ⟨j, hj, rfl⟩)⟩
  refine ⟨fwd k, fun ⟨hk, hall⟩ => ?_⟩
  cases h : peakBin num c g x b with
  | none => exact absurd hk ((peakBin_eq_none num c g x b).1 h k)
  | some m =>
    obtain ⟨hm, hm'⟩ := fwd m h
    have e := le_antisymm (hall m hm).1 (hm' k hk).1
    exact congrArg some (le_antisymm ((hm' k hk).2 e.symm) ((hall m hm).2 e))

/-- A band fails as empty exactly when it has no bin (rule R152), with itself as the index. -/
theorem bandState_eq_error (num : Numerics) (c : ConfigRegs) (g : Geometry) (x : List Sample) (b i : Nat)
    (e : DecodeCause) :
    bandState num c g x b = .error (e, i) ↔ i = b ∧
      ((e = .emptyBand ∧ peakBin num c g x b = none) ∨
        (e = .stepIndex ∧ ∃ k, peakBin num c g x b = some k ∧ (g.statesPerBand : Int) ≤ nearestState c g b k)) := by
  unfold bandState
  cases h : peakBin num c g x b with
  | none => simp; tauto
  | some k =>
    simp only
    split_ifs with hk
    · simp [hk]; tauto
    · simp [hk]

/-- Every failure of `demodulate` (rule R156). -/
theorem demodulate_eq_error (num : Numerics) (c : ConfigRegs) (g : Geometry) (x : List Sample) (e : DecodeCause)
    (i : Nat) :
    demodulate num c g x = .error (e, i) ↔
      (i < c.bandCount ∧ bandState num c g x i = .error (e, i) ∧ ∀ j, j < i → ∃ d, bandState num c g x j = .ok d) ∨
      (e = .alphabet ∧ i = 0 ∧ ∃ v, List.Forall₂ (fun b d => bandState num c g x b = .ok d) (List.range c.bandCount) v ∧
        2 ^ g.bitsPerSymbol ≤ fromStates g.statesPerBand v) := by
  unfold demodulate
  cases h : collect (bandState num c g x) (List.range c.bandCount) with
  | error p =>
    have hn : ∀ v, ¬List.Forall₂ (fun b d => bandState num c g x b = .ok d) (List.range c.bandCount) v := by
      intro v hv; rw [← collect_eq_ok, h] at hv; cases hv
    rw [List.range_eq_range'] at h
    simp only [Except.error.injEq, hn, false_and, exists_false, and_false, or_false]
    constructor
    · rintro rfl
      obtain ⟨j, -, hj, hb, hall⟩ := (collect_range'_eq_error _ _ _ _).1 h
      obtain ⟨rfl, -⟩ := (bandState_eq_error _ _ _ _ _ _ _).1 hb
      exact ⟨by omega, hb, fun j hj => hall j (by omega) hj⟩
    · rintro ⟨h1, h2, h3⟩
      have := (collect_range'_eq_error (bandState num c g x) 0 c.bandCount (e, i)).2
        ⟨i, by omega, by omega, h2, fun j _ hj => h3 j hj⟩
      rw [h] at this; cases this; rfl
  | ok u =>
    have hu := (collect_eq_ok _ _ _).1 h
    have huniq : ∀ v, List.Forall₂ (fun b d => bandState num c g x b = .ok d) (List.range c.bandCount) v → v = u := by
      intro v hv; rw [← collect_eq_ok, h] at hv; cases hv; rfl
    have hno : ¬(i < c.bandCount ∧ bandState num c g x i = .error (e, i) ∧
        ∀ j, j < i → ∃ d, bandState num c g x j = .ok d) := by
      rintro ⟨h1, h2, h3⟩
      have := (collect_range'_eq_error (bandState num c g x) 0 c.bandCount (e, i)).2
        ⟨i, by omega, by omega, h2, fun j _ hj => h3 j hj⟩
      rw [← List.range_eq_range', h] at this; cases this
    simp only [hno, false_or]
    split_ifs with hw
    · simp only [Except.error.injEq, Prod.mk.injEq]
      constructor
      · rintro ⟨rfl, rfl⟩; exact ⟨rfl, rfl, u, hu, hw⟩
      · rintro ⟨rfl, rfl, -⟩; exact ⟨rfl, rfl⟩
    · simp only [false_iff]
      rintro ⟨-, -, v, hv, hv'⟩
      rw [huniq v hv] at hv'; exact hw hv'

/-- A window never fails for its length: that cause is `rx_frame`'s and the commands' (rules R156, R197). -/
theorem demodulate_ne_length (num : Numerics) (c : ConfigRegs) (g : Geometry) (x : List Sample) (b : Nat) :
    demodulate num c g x ≠ .error (.length, b) := by
  rw [ne_eq, demodulate_eq_error]
  simp [bandState_eq_error]

/-- A window is N samples from its start, or what the capture has of them (rule R56). -/
theorem window_eq (rx : List Sample) (ds n i : Nat) : window rx ds n i = (rx.drop (ds + i * n)).take n := by
  rw [window, slice, Nat.add_mul]
  congr 1
  omega

/-- The bits of the symbols of vectors (rules R107, R127). -/
theorem unpack_map_fromStates (vs : List BandVector) (statesPerBand w total : Nat) :
    unpack (vs.map (fromStates statesPerBand)) w total =
      (vs.flatMap fun v => beBits (fromStates statesPerBand v) w).take total := by
  simp [unpack, List.flatMap_map]

/-- `detect` succeeds exactly with the peak of the candidates, if it reaches the threshold (rule R177). -/
theorem detect_eq_ok (rx tpl : List Sample) (thr : Rat) (p : Nat × Rat) :
    detect rx tpl thr = .ok p ↔ earliestMax (candidates rx tpl) = some p ∧ thr ≤ p.2 := by
  unfold detect
  cases earliestMax (candidates rx tpl) with
  | none => simp
  | some q =>
    simp only [Option.some.injEq]
    split_ifs with hq
    · simp only [false_iff, not_and, not_le]
      rintro rfl
      exact hq
    · simp only [Except.ok.injEq]
      refine ⟨?_, fun h => h.1⟩
      rintro rfl
      exact ⟨rfl, not_lt.1 hq⟩

end Sys2Proof.Machine
end

