-- ==== Sys2Proof/Machine/Assembler.lean ====
section
/-! DEFINITION. The assembler's one-line syntax (rule R75) and the pseudo-instructions (rule R76). -/

namespace Sys2Proof.Machine

/-- The pseudo-instructions (rule R76). -/
inductive Pseudo where
  /-- `TXSYM i`. -/
  | txsym (i : Nat)
  /-- `RXSYM i`. -/
  | rxsym (i : Nat)
deriving DecidableEq, Repr

/-- The commands a pseudo-instruction expands to, the second issued whatever the first one's result (rule R76). -/
def Pseudo.expand : Pseudo → List Instr
  | .txsym i => [.map i, .mod]
  | .rxsym i => [.demod i, .unmap]

/-- The text before a `;` (rule R75). -/
def stripComment (line : List Char) : List Char := line.takeWhile (· != ';')

/-- The fields of a line, separated by spaces. -/
def fields : List Char → List (List Char)
  | [] => []
  | c :: cs =>
    if c = ' ' then fields cs
    else
      match cs, fields cs with
      | d :: _, w :: ws => if d = ' ' then [c] :: w :: ws else (c :: w) :: ws
      | _, ws => [c] :: ws

/-- The value of a digit of the given base. -/
def digitValue (base : Nat) (c : Char) : Option Nat :=
  let n := c.toNat
  let v :=
    if 48 ≤ n ∧ n ≤ 57 then some (n - 48)
    else if 65 ≤ n ∧ n ≤ 70 then some (n - 55)
    else if 97 ≤ n ∧ n ≤ 102 then some (n - 87)
    else none
  v.bind fun d => if d < base then some d else none

/-- The value of a run of digits after the value `acc`. -/
def digitsFrom (base acc : Nat) : List Char → Option Nat
  | [] => some acc
  | c :: cs => (digitValue base c).bind fun d => digitsFrom base (acc * base + d) cs

/-- An unsigned decimal or `0x` hexadecimal operand (rule R75). -/
def operandValue : List Char → Option Nat
  | [] => none
  | '0' :: 'x' :: c :: cs => digitsFrom 16 0 (c :: cs)
  | c :: cs => digitsFrom 10 0 (c :: cs)

/-- The commands with no operand, by mnemonic (rule R72). -/
def plainMnemonics : List (String × Instr) :=
  [("NOP", .nop), ("DERIVE", .derive), ("CLRERR", .clrerr), ("FRAME", .frame), ("PACK", .pack),
   ("UNPACK", .unpack), ("DEFRAME", .deframe), ("UNMAP", .unmap), ("MOD", .mod), ("CHIRP", .chirp),
   ("TXPRE", .txpre), ("DETECT", .detect), ("TXFRAME", .txframe), ("RXFRAME", .rxframe)]

/-- The commands of a mnemonic with one operand (rules R72, R76). -/
def operandMnemonic (m : List Char) (i : Nat) : Option (List Instr) :=
  if m = "MAP".toList then some [.map i]
  else if m = "DEMOD".toList then some [.demod i]
  else if m = "TXSYM".toList then some (Pseudo.txsym i).expand
  else if m = "RXSYM".toList then some (Pseudo.rxsym i).expand
  else none

/-- The commands a line names: none for a blank line, one, or a pseudo-instruction's two (rules R75, R76); an operand that
no word can hold names nothing (rule R73). -/
def parseLine (line : String) : Option (List Instr) :=
  match fields (stripComment line.toList) with
  | [] => some []
  | [m] => ((plainMnemonics.find? fun p => p.1.toList = m).map fun p => [p.2])
  | [m, a] =>
    match operandValue a with
    | none => none
    | some i => if i < 2 ^ 24 then operandMnemonic m i else none
  | _ => none

/-- The words of a line (rule R75). -/
def assemble (line : String) : Option (List Word) := (parseLine line).map fun is => is.map encode

end Sys2Proof.Machine
end

