-- ==== Sys2Proof/Tests/Slice0.lean ====
section
/-! SUPPORT. Tests with expected results from the spec's own vectors (`95_test_vectors.md`), each on one command or one
step, and a witness for every statement that has hypotheses. -/

namespace Sys2Proof.Tests

open Sys2Proof.Machine Sys2Proof.Safety

-- One theorem after the other: each waiting kernel evaluation would hold a thread and its stack.
set_option Elab.async false

/-! ## Small states -/

/-- Config (c) of `95_test_vectors.md`. -/
def configC : ConfigRegs where
  sampleRate := 8000
  symbolDuration := 1 / 100
  bandLow := 1000
  bandHigh := 2000
  bandCount := 2
  step := 100
  preDuration := 1 / 100
  preStartFreq := 1000
  preEndFreq := 3000
  guardDuration := 1 / 200
  lengthFieldBits := 8
  syncThreshold := 20

/-- The geometry `95_test_vectors.md` gives for config (c). -/
def geometryC : Geometry := ⟨500, 5, 25, 4, 80, 80, 40, 200000⟩

/-- Right after reset with config (c) written. -/
def loadedC : State := { State.reset with cfg := configC }

/-- SETUP-c of `95_test_vectors.md`. -/
def readyC : State := { loadedC with geo := geometryC, sv := [none, none], status := 0x01 }

/-- A halted block. -/
def halted : State := { State.reset with status := 0x02, result := 1, errlog := 0x02, errinfo := 3 }

/-- A configuration with four samples a window and two states: the exact arithmetic of a whole frame stays small. -/
def configT : ConfigRegs := ⟨4, 1, 0, 2, 1, 1, 1 / 4, 0, 0, 0, 1, 0⟩

/-- SETUP on the small configuration. -/
def readyT : State :=
  { State.reset with cfg := configT, geo := ⟨2, 2, 2, 1, 4, 1, 0, 0⟩, sv := [none], status := 0x01 }

/-- The state after a command. -/
def after (i : Instr) (s : State) : State :=
  match exec i s with
  | .next t => t
  | _ => s

/-- The state after a step. -/
def stepped (s : State) : State :=
  match step s with
  | .next t => t
  | _ => s

/-- A command ends in the state after it. -/
theorem exec_after (i : Instr) (s : State) : exec i s = .next (after i s) := by
  have h : ∃ t, exec i s = .next t := by
    cases i <;> exact ⟨_, unlessHalted_eq _ _⟩
  obtain ⟨t, ht⟩ := h
  simp [after, ht]

/-- Bits from the digits of a vector. -/
def bitsOf (text : String) : List Bit := text.toList.map (· == '1')

/-! ## Well-formedness and encoding -/

/-- Rule R73: an index of 2^24 cannot be named by `MAP` or `DEMOD`. -/
theorem test_wellFormed_rejects :
    Instr.wellFormed (.map (2 ^ 24)) = false ∧ Instr.wellFormed (.demod (2 ^ 24)) = false ∧
      Instr.wellFormed (.map (2 ^ 24 - 1)) = true ∧ Instr.wellFormed .rxframe = true := by decide

/-- V10, the words of the sixteen commands, `(op << 24) | imm`. -/
theorem test_decode_words :
    decode 0x00000000 = .ok .nop ∧ decode 0x01000000 = .ok .derive ∧ decode 0x02000000 = .ok .clrerr ∧
      decode 0x10000000 = .ok .frame ∧ decode 0x11000000 = .ok .pack ∧ decode 0x12000000 = .ok .unpack ∧
      decode 0x13000000 = .ok .deframe ∧ decode 0x20000004 = .ok (.map 4) ∧ decode 0x21000000 = .ok .unmap ∧
      decode 0x30000000 = .ok .mod ∧ decode 0x31000010 = .ok (.demod 16) ∧ decode 0x40000000 = .ok .chirp ∧
      decode 0x41000000 = .ok .txpre ∧ decode 0x42000000 = .ok .detect ∧ decode 0x50000000 = .ok .txframe ∧
      decode 0x51000000 = .ok .rxframe := by decide

/-- Rule R70, `MAP` written bit by bit: `op` 0010 0000 in bits 31:24, `imm` with bits 23 and 0 set. -/
theorem test_decode_bits :
    decode 0b0010_0000_1000_0000_0000_0000_0000_0001 = .ok (.map 8388609) ∧
      decode 0b0101_0001_0000_0000_0000_0000_0000_0000 = .ok .rxframe := by decide

/-- V10, the reserved words. -/
theorem test_decode_reserved :
    [0x03000000, 0x14000000, 0x22000000, 0x32000000, 0x43000000, 0x52000000, 0xFF000000, 0xFFFFFFFF].map decode =
        List.replicate 8 (.error .undefinedOpcode) ∧
      [0x00000001, 0x01000001, 0x30000001, 0x21800000, 0x50FFFFFF].map decode =
        List.replicate 5 (.error .nonZeroImmediate) := by decide

/-- V10, the other way: the words of `MAP 16777215`, `DEMOD 0x10` and `TXFRAME`. -/
theorem test_encode_words :
    encode (.map 16777215) = 0x20FFFFFF ∧ encode (.demod 16) = 0x31000010 ∧ encode .txframe = 0x50000000 := by decide

/-- A table word reaches the decoder with its 32 bits. -/
theorem test_decodeTableWord :
    decodeTableWord 32 0x31000002 = some (.demod 2) ∧ decodeTableWord 32 0x03000000 = none := by decide

/-- Rules R75, R76: the assembler's lines. -/
theorem test_assemble :
    assemble "MAP 3 ; third symbol" = some [0x20000003] ∧ assemble "DEMOD 0x10" = some [0x31000010] ∧
      assemble "TXSYM 1" = some [0x20000001, 0x30000000] ∧ assemble "RXSYM 2" = some [0x31000002, 0x21000000] ∧
      assemble "MAP 16777216" = none ∧ assemble "DERIVE" = some [0x01000000] := by decide

/-- Rule R38, the buffer ids. -/
theorem test_bufferOf : bufferOf 0 = some .payload ∧ bufferOf 5 = some .rxs ∧ bufferOf 6 = none := by decide

/-- V11. -/
theorem test_round_he :
    [(5 / 2 : Rat), 7 / 2, 1 / 2, 3 / 2, -1 / 2, -3 / 2, 249 / 100, 251 / 100].map roundHE =
      [2, 4, 0, 2, 0, -2, 2, 3] := by decide +kernel

/-- V11. -/
theorem test_big_endian :
    [1, 2, 3, 25, 16, 2 ^ 40].map ilog2 = [0, 1, 1, 4, 4, 40] ∧ beBits 10 8 = bitsOf "00001010" ∧
      beValue (bitsOf "0100") = 4 ∧ beBits 0 0 = [] ∧ beValue [] = 0 := by decide

/-! ## Control commands -/

/-- P5: a success leaves the log. -/
theorem test_nop :
    let t := after .nop { State.reset with result := 6, errlog := 0xC0, errinfo := 2 }
    t.result = 0 ∧ t.errlog = 0xC0 ∧ t.errinfo = 2 := by decide

/-- P6: `CLRERR` leaves `STATUS`. -/
theorem test_clrerr :
    let t := after .clrerr { readyC with status := 0x09, errlog := 0xA0, errinfo := 0x102 }
    t.result = 0 ∧ t.errlog = 0 ∧ t.errinfo = 0 ∧ t.status = 0x09 := by decide

/-- V12 case (c). -/
theorem test_derive : after .derive loadedC = readyC := by decide +kernel

/-- V12 case (d), V13, V2: the causes of `ConfigError`. -/
theorem test_derive_fails :
    let t := after .derive { loadedC with cfg := { configC with step := 300 } }
    (t.result = 1 ∧ t.errlog = 0x02 ∧ t.errinfo = 2 ∧ t.status = 0x02 ∧ t.geo = State.reset.geo) ∧
      derive configC (some 1) = .error .tooManyBands ∧
      derive { configC with step := 2000, symbolDuration := 1 / 10000 } none = .error .unresolvable ∧
      (after .derive readyC).errinfo = 2 := by decide +kernel

/-! ## Packer and frame -/

/-- V14. -/
theorem test_pack_functions :
    pack (bitsOf "1011001101") 4 = [11, 3, 4] ∧ pack (bitsOf "1") 4 = [8] ∧
      pack (bitsOf "11111") 40 = [1065151889408] ∧ unpack [11, 3, 4] 4 12 = bitsOf "101100110100" := by decide

/-- V15. -/
theorem test_frame :
    (after .frame { readyC with payload := bitsOf "1011001101" }).fbits = bitsOf "000010101011001101" ∧
      (after .frame { readyC with payload := bitsOf "1011001101", caps := ⟨some 16, none, none, none⟩ }).errinfo =
        3 := by decide

/-- V15: 256 bits do not fit the length field. -/
theorem test_frame_too_long :
    let t := after .frame { readyC with payload := List.replicate 256 true }
    t.result = 5 ∧ t.errlog = 0x20 ∧ t.errinfo = 2 ∧ t.fbits = [] := by decide +kernel

/-- V16. -/
theorem test_pack :
    (after .pack { readyC with fbits := bitsOf "000010101011001101" }).syms = [0, 10, 11, 3, 4] := by decide

/-- V17. -/
theorem test_unpack :
    let s := { readyC with syms := [0, 10, 11, 3, 4] }
    (after .unpack { s with arg0 := 18 }).fbits = bitsOf "000010101011001101" ∧
      (after .unpack { s with arg0 := 21, fbits := [true] }).fbits = [] ∧
      (after .unpack { s with arg0 := 21 }).errinfo = 2 ∧ (after .unpack { s with arg0 := 21 }).result = 3 := by decide

/-- V17: a symbol of 2^w or more. -/
theorem test_unpack_out_of_range :
    let t := after .unpack { readyC with syms := [0, 16], arg0 := 8 }
    t.result = 5 ∧ t.errinfo = 0x102 := by decide

/-- V18: what follows the payload is ignored. -/
theorem test_deframe :
    (after .deframe { readyC with fbits := bitsOf "00001010101100110111" }).payload = bitsOf "1011001101" := by decide

/-- V19. -/
theorem test_deframe_short :
    let t := after .deframe { readyC with fbits := bitsOf "0000101010110011", payload := [true] }
    t.result = 3 ∧ t.errlog = 0x08 ∧ t.errinfo = 2 ∧ t.payload = [] ∧
      (after .deframe { readyC with fbits := bitsOf "0000101" }).result = 3 := by decide

/-! ## Band mapper -/

/-- V20. -/
theorem test_digits :
    [0, 3, 5, 11, 15, 24].map (fun x => toStates x 5 2) = [[0, 0], [3, 0], [0, 1], [1, 2], [0, 3], [4, 4]] ∧
      fromStates 5 [4, 4] = 24 ∧ toStates 0x123456789A 16 10 = [10, 9, 8, 7, 6, 5, 4, 3, 2, 1] := by decide

/-- V21. -/
theorem test_map :
    let t := after (.map 1) { readyC with syms := [0, 10, 11, 3, 4] }
    t.sv = [some 0, some 2] ∧ t.status = 0x09 ∧
      (after (.map 5) { readyC with syms := [0, 10, 11, 3, 4] }).errinfo = 0x501 := by decide

/-- V21: a symbol out of range leaves `SV`. -/
theorem test_map_out_of_range :
    let t := after (.map 1) { readyC with syms := [3, 99] }
    t.result = 5 ∧ t.errinfo = 0x102 ∧ t.sv = [none, none] := by decide

/-- V21. -/
theorem test_unmap :
    let s := { readyC with syms := [0, 10], sv := [some 0, some 2], status := 0x09 }
    (after .unmap s).syms = [0, 10, 10] ∧ (after .unmap { s with sv := [some 0, some 5] }).errinfo = 0x102 := by decide

/-- V21: a vector whose symbol is 16. -/
theorem test_unmap_alphabet :
    let t := after .unmap { readyC with syms := [7, 7], sv := [some 1, some 3], status := 0x09 }
    t.result = 3 ∧ t.errlog = 0x08 ∧ t.errinfo = 0x201 ∧ t.syms = [7, 7] := by decide

/-! ## Modulator and demodulator -/

/-- V27: the second window starts again. -/
theorem test_mod :
    let s := { readyC with sv := [some 0, some 2], status := 0x09 }
    (after .mod s).txs.length = 80 ∧
      (after .mod { after .mod s with caps := ⟨none, none, some 100, none⟩ }).errinfo = 3 := by decide +kernel

/-- V27. -/
theorem test_mod_without_vector : (after .mod readyC).result = 7 ∧ (after .mod readyC).errinfo = 3 := by decide

/-- V27, P4: `DEMOD` before synchronisation and past the capture. -/
theorem test_demod_refused :
    (after (.demod 0) readyC).errinfo = 5 ∧
      (after (.demod 5) { readyC with
        status := 0x15, rxs := List.replicate 540 0, sync := ⟨7, 0, 127⟩ }).errinfo = 0x501 := by decide +kernel

/-- V24 (a): a band above half the sample rate has no bins. -/
theorem test_demod_empty_band :
    bins { configC with bandHigh := 9000 } { geometryC with bandWidth := 4000, statesPerBand := 40 } 1 = [] ∧
      (bins { configC with bandHigh := 9000 } { geometryC with bandWidth := 4000, statesPerBand := 40 } 0).length =
        31 := by decide +kernel

/-- The ties of V26: bins 16 and 17 of band 1 are the states 0 and 2. -/
theorem test_nearest_state :
    let c := { configC with bandHigh := 2100 }
    let g := { geometryC with bandWidth := 550 }
    [16, 17, 18, 19, 20].map (nearestState c g 1) = [0, 2, 2, 4, 4] := by decide +kernel

/-! ## Chirp codec -/

/-- V28, the phase of the chirp. -/
theorem test_chirp_turns :
    [0, 1, 2, 3, 4].map (chirpTurns configC geometryC) = [0, 81 / 640, 41 / 160, 249 / 640, 21 / 40] := by
  decide +kernel

/-- V28: 80 samples, then 40 zeros after `TXPRE`. -/
theorem test_chirp_txpre :
    let t := after .txpre (after .chirp readyC)
    t.tpl.length = 80 ∧ t.txs.length = 120 ∧ t.status = 0x05 ∧ t.txs.drop 80 = List.replicate 40 0 := by
  decide +kernel

/-- V30. -/
theorem test_txpre_refused : (after .txpre readyC).result = 7 ∧ (after .txpre readyC).errinfo = 4 := by decide

/-- Rules R175, R177 by hand: the template 1, −1 against 0, 1, 2, 1, 2, 1 gives −1, −1, 1, −1, 1: the earliest 1. -/
theorem test_detect :
    let t := after .detect { readyC with
      cfg := { configC with syncThreshold := 1 }, status := 0x05, tpl := [1, -1], rxs := [0, 1, 2, 1, 2, 1] }
    t.sync = ⟨2, 1, 122⟩ ∧ t.status = 0x15 ∧ t.result = 0 := by decide +kernel

/-- V29, on silence: too short, below the threshold, and threshold 0. -/
theorem test_detect_silence :
    let s := { readyC with status := 0x05, tpl := List.replicate 80 0 }
    (after .detect { s with rxs := List.replicate 79 0 }).errinfo = 1 ∧
      (after .detect { s with rxs := List.replicate 100 0 }).errinfo = 2 ∧
      (after .detect { s with rxs := List.replicate 100 0, cfg := { configC with syncThreshold := 0 } }).sync =
        ⟨0, 0, 120⟩ := by decide +kernel

/-! ## Whole frames -/

/-- P1. -/
theorem test_txframe :
    let t := after .txframe { readyC with payload := bitsOf "1011001101" }
    t.result = 0 ∧ t.status = 0x0D ∧ t.syms = [0, 10, 11, 3, 4] ∧ t.sv = [some 4, some 0] ∧ t.txs.length = 520 := by
  decide +kernel

/-- V31: one sample too many, nothing written. -/
theorem test_txframe_over_capacity :
    let t := after .txframe { readyC with payload := bitsOf "1011001101", caps := ⟨none, none, some 519, none⟩ }
    t.result = 5 ∧ t.errinfo = 3 ∧ t.txs = [] ∧ t.status = 0x01 := by decide +kernel

/-- Rule R189 on an empty capture: too short, and `TPL` is written all the same. -/
theorem test_rxframe_too_short :
    let t := after .rxframe { readyC with payload := [true], syms := [1], fbits := [true] }
    t.result = 2 ∧ t.errinfo = 1 ∧ t.status = 0x05 ∧ t.tpl.length = 80 ∧ t.payload = [] ∧ t.syms = [] ∧
      t.fbits = [] := by decide +kernel

/-! ## The host port -/

/-- P5, P6: the port ignores writes in mode HALTED and the configuration lock holds. -/
theorem test_host_writes_ignored :
    (stepped (halted.withMove (.writeReg 0 8000))).cfg.sampleRate = 0 ∧
      (stepped (readyC.withMove (.writeReg 5 50))).cfg.step = 100 ∧
      (stepped (State.reset.withMove (.writeReg 5 50))).cfg.step = 50 := by decide +kernel

/-- P5: reserved words. -/
theorem test_host_issue_reserved :
    (stepped (State.reset.withMove (.issue 0x03000000))).errinfo = 1 ∧
      (stepped (State.reset.withMove (.issue 0x00000005))).errinfo = 2 ∧
      (stepped (State.reset.withMove (.issue 0x00000005))).errlog = 0x40 := by decide

/-- V30: a new capture clears the synchronisation. -/
theorem test_host_load_rxs :
    let t := stepped ({ readyC with status := 0x15, sync := ⟨7, 1, 127⟩ }.withMove (.load .rxs (.samples [0])))
    t.status = 0x05 ∧ t.sync = ⟨0, 0, 0⟩ ∧ t.rxs = [0] := by decide +kernel

/-- V21: a vector of the wrong length is ignored. -/
theorem test_host_write_sv :
    (stepped (readyC.withMove (.writeSv [1]))).sv = [none, none] ∧
      (stepped (readyC.withMove (.writeSv [1, 9]))).sv = [some 1, some 9] := by decide

/-- A placed word is the next the step runs (log 1). -/
theorem test_withFetchWord :
    (stepped (State.reset.withFetchWord 32 0x30000000)).errlog = 0x80 ∧
      (stepped (State.reset.withFetchWord 32 0x30000000)).cmd = 0x30000000 := by decide


/-! ## Witnesses: for each statement with hypotheses, states and operands that meet them, clause by clause -/

/-- Silence correlates to 0 with any template. -/
theorem corr_zeros (tpl : List Sample) (m k : Nat) : corr (List.replicate m 0) tpl k = 0 := by
  rw [corr, List.drop_replicate]
  generalize m - k = j
  induction tpl generalizing j with
  | nil => rfl
  | cons a as ih => cases j with
    | zero => rfl
    | succ j => simp [List.replicate_succ, ih]

/-- Silence has no power (V23). -/
theorem power_zeros (num : Numerics) (n m k : Nat) : power num n (List.replicate m 0) k = 0 := by
  have h : ∀ f : Rat → Rat, windowSum f n (List.replicate m 0) k = 0 := by
    intro f
    apply List.sum_eq_zero
    intro y hy
    obtain ⟨xi, hxi, rfl⟩ := List.mem_map.1 hy
    have := (List.mem_replicate.1 (List.fst_mem_of_mem_zipIdx hxi)).2
    simp [this]
  simp [power, h]

/-- The loop-back numerics: exact at the quarter turns, 0 elsewhere, no quantisation. -/
def quarterNum : Numerics where
  sinturn x := if x - x.floor = 1 / 4 then 1 else if x - x.floor = 3 / 4 then -1 else 0
  costurn x := if x - x.floor = 0 then 1 else if x - x.floor = 1 / 2 then -1 else 0
  q x := x

/-- The host's words decode in both directions. -/
theorem witness_DecodeInvertsEncode :
    Instr.wellFormed (.demod (2 ^ 24 - 1)) = true ∧ Instr.wellFormed (.map 0) = true ∧ Instr.wellFormed .txpre = true := by
  decide

theorem witness_EncodeInvertsDecode :
    decode 0x31FFFFFF = .ok (.demod 16777215) ∧ decode 0x20000000 = .ok (.map 0) ∧ decode 0x41000000 = .ok .txpre := by
  decide

theorem witness_ReservedWordsRaiseIllegalCommand :
    ((readyC.withMove (.issue 0xFFFFFFFF)).pending = .issue 0xFFFFFFFF :: [] ∧
      (readyC.withMove (.issue 0xFFFFFFFF)).flag .halted = false ∧ decode 0xFFFFFFFF = .error .undefinedOpcode) ∧
    (State.reset.withMove (.issue 1)).pending = .issue 1 :: [] ∧
      (State.reset.withMove (.issue 1)).flag .halted = false ∧ decode 1 = .error .nonZeroImmediate := by decide

theorem witness_StepRunsTheIssuedCommand :
    (readyC.withMove (.issue 0x20FFFFFF)).pending = .issue 0x20FFFFFF :: [] ∧
      (readyC.withMove (.issue 0x20FFFFFF)).flag .halted = false ∧ decode 0x20FFFFFF = .ok (.map 16777215) := by decide

theorem witness_HaltedIgnoresEveryWriteAndCommand :
    (∀ m ∈ [HostMove.writeReg 0 8000, .writeReg 36 0, .writeSv [], .load .rxs (.samples [1]), .issue 0x02000000],
      (halted.withMove m).pending = m :: [] ∧ (halted.withMove m).flag .halted = true) ∧
    halted.flag .halted = true := by
  exact ⟨fun m _ => ⟨rfl, (by decide : halted.flag .halted = true)⟩, by decide⟩

theorem witness_EveryStepAnswersANextState : State.reset.pending = [] ∧ halted.pending = [] := by decide

theorem witness_HostResetRestoresResetValues :
    (halted.withMove .reset).pending = .reset :: [] ∧ (readyC.withMove .reset).pending = .reset :: [] := by decide

/-- The geometry of config (c) is the one `derive` gives. -/
theorem derive_configC : derive configC none = .ok geometryC := by decide +kernel

/-- The geometry of the small configuration is the one `derive` gives. -/
theorem derive_configT : derive configT none = .ok ⟨2, 2, 2, 1, 4, 1, 0, 0⟩ := by decide +kernel

/-- No flag of the legal registers of an idle READY state is reserved. -/
theorem registersLegal_of_words {s : State} (h : s.status = 0x01 ∧ s.result = 0 ∧ s.errlog = 0) : RegistersLegal s := by
  obtain ⟨h1, h2, h3⟩ := h
  refine ⟨fun k hk => ?_, fun _ => ?_, ?_, fun k hk => ?_⟩
  · rw [h1]
    by_cases hk' : k < 32
    · interval_cases k <;> decide
    · exact BitVec.getLsbD_of_ge _ _ (by omega)
  · simp [State.flag, h1, Flag.bit]
  · simp [h2]
  · simp [h3] at hk

/-- SETUP-c and the small set-up meet the invariant, whatever data of the host they hold. -/
theorem inv_ready (s : State) (hs : s.status = 0x01 ∧ s.result = 0 ∧ s.errlog = 0) (hd : derive s.cfg none = .ok s.geo)
    (hv : s.sv = List.replicate s.cfg.bandCount none) (ht : s.tpl = []) (hy : s.sync = ⟨0, 0, 0⟩)
    (hc : s.caps = ⟨none, none, none, none⟩) : Inv s := by
  have hf : ∀ f, s.flag f = (0x01#32).getLsbD f.bit := fun f => by rw [State.flag, hs.1]; rfl
  refine ⟨registersLegal_of_words hs, ⟨fun h => ?_, fun _ => ?_⟩, ⟨?_, ?_, ?_⟩, ⟨?_, ?_, ?_, ?_, ?_, ?_⟩⟩
  · simp [hf, Flag.bit] at h
  · simp [hc, hd, hv]
  · simp [hf, Flag.bit, ht]
  · simp [hf, Flag.bit, hv]
  · simp [hf, Flag.bit, hy]
  all_goals simp [hc, fits]

theorem inv_readyC : Inv readyC := inv_ready _ (by decide) derive_configC rfl rfl rfl rfl

/-- The small set-up with a capture of five zeros and a payload bit. -/
def captured : State := { readyT with rxs := List.replicate 5 0, payload := [true] }

theorem inv_captured : Inv captured := inv_ready _ (by decide) derive_configT rfl rfl rfl rfl

theorem witness_EveryStepKeepsTheInvariant :
    Inv (readyC.withMove (.issue 0x40000000)) ∧
      step (readyC.withMove (.issue 0x40000000)) = .next (stepped (readyC.withMove (.issue 0x40000000))) ∧
      (stepped (readyC.withMove (.issue 0x40000000))).flag .tplValid = true :=
  ⟨inv_ready _ (by decide) derive_configC rfl rfl rfl rfl, rfl, by decide⟩

theorem witness_ModeChangesOnlyByDeriveAndReset :
    ((readyC.withMove .reset).pending = .reset :: [] ∧
      step (readyC.withMove .reset) = .next (stepped (readyC.withMove .reset))) ∧
    (loadedC.mode = .unconfigured ∧ exec .derive loadedC = .next (after .derive loadedC) ∧
      (after .derive loadedC).result = 0) ∧
    (State.reset.mode = .unconfigured ∧ exec .derive State.reset = .next (after .derive State.reset) ∧
      (after .derive State.reset).result ≠ 0) ∧
    (stepped (loadedC.withMove (.issue 0x01000000))).mode ≠ (loadedC.withMove (.issue 0x01000000)).mode ∧
    (stepped (State.reset.withMove (.issue 0x01000000))).mode ≠ State.reset.mode :=
  ⟨⟨rfl, rfl⟩, ⟨by decide, exec_after _ _, by decide +kernel⟩, ⟨by decide, exec_after _ _, by decide +kernel⟩,
    by decide +kernel, by decide +kernel⟩

theorem witness_ConfigurationIsLocked :
    (loadedC.flag .halted = false ∧ exec .derive loadedC = .next (after .derive loadedC) ∧
      (after .derive loadedC).result = 0) ∧
    (readyC.withMove (.writeReg 0 1)).flag .cfgValid = true ∧
      (∀ rest, (readyC.withMove (.writeReg 0 1)).pending ≠ .reset :: rest) ∧
      step (readyC.withMove (.writeReg 0 1)) = .next (stepped (readyC.withMove (.writeReg 0 1))) :=
  ⟨⟨by decide, exec_after _ _, by decide +kernel⟩, by decide, fun _ h => (nomatch h), rfl⟩

theorem witness_EveryCommandRecordsOneResult :
    readyC.flag .halted = false ∧ exec .mod readyC = .next (after .mod readyC) ∧ (after .mod readyC).result ≠ 0 ∧
      exec .chirp readyC = .next (after .chirp readyC) ∧ (after .chirp readyC).result = 0 :=
  ⟨by decide, exec_after _ _, by decide, exec_after _ _, by decide⟩

/-- A READY state in which band 0 has no bin: one sample a window, the band above 0 Hz. -/
def noBins : State :=
  { readyC with
    cfg := { configC with bandCount := 1, lengthFieldBits := 1, syncThreshold := 0 }
    geo := { geometryC with nSymbol := 1, lPreamble := 1, gGuard := 0 }
    sv := [some 0], status := 0x1D, rxs := [0, 0], tpl := [1] }

/-- On silence every candidate ties and the first offset is the peak. -/
theorem peak_zeros (m : Nat) (tpl : List Sample) (h : tpl.length ≤ m) :
    earliestMax (candidates (List.replicate m 0) tpl) = some (0, 0) := by
  have hc : candidates (List.replicate m 0) tpl =
      (List.range' 0 (m + 1 - tpl.length)).map fun k => (k, (0 : Rat)) := by
    simp [candidates, corr_zeros, List.range_eq_range']
  have key : ∀ n a, earliestMax ((List.range' a (n + 1)).map fun k => (k, (0 : Rat))) = some (a, 0) := by
    intro n
    induction n with
    | zero => intro a; rfl
    | succ n ih =>
      intro a
      rw [List.range'_succ, List.map_cons, earliestMax, ih]
      simp
  rw [hc, show m + 1 - tpl.length = (m - tpl.length) + 1 from by omega]
  exact key _ _

/-- On silence the detector takes the first offset when the threshold is not positive. -/
theorem detect_zeros (m : Nat) (tpl : List Sample) (thr : Rat) (h : tpl.length ≤ m) (ht : thr ≤ 0) :
    detect (List.replicate m 0) tpl thr = .ok (0, 0) := (detect_eq_ok _ _ _ _).2 ⟨peak_zeros m tpl h, ht⟩

/-- On silence the detector finds nothing when the threshold is positive. -/
theorem detect_zeros_below (m : Nat) (tpl : List Sample) (thr : Rat) (h : tpl.length ≤ m) (ht : 0 < thr) :
    detect (List.replicate m 0) tpl thr = .error .belowThreshold := by
  simp [detect, peak_zeros m tpl h, ht]

/-- `RXFRAME` on `noBins` finds the preamble and then a band without bins. -/
theorem rxFrame_noBins : rxFrame Config.num noBins.cfg noBins.geo noBins.rxs = .decodeError 0 0 1 .emptyBand 0 := by
  have h := detect_zeros 2 (chirp Config.num noBins.cfg noBins.geo) 0 (by simp [noBins, geometryC]) le_rfl
  have h' : detect noBins.rxs (chirp Config.num noBins.cfg noBins.geo) noBins.cfg.syncThreshold = .ok (0, 0) := h
  rw [rxFrame, h']
  decide +kernel

theorem witness_FailuresChangeOnlyWhatTheRuleNames :
    (readyC.flag .halted = false ∧ noBins.flag .halted = false ∧ State.reset.flag .halted = false) ∧
    (∀ (i : Instr) (s : State), exec i s = .next (after i s)) ∧
    (after (.map 0) readyC).result = 5 ∧ (after .mod readyC).result = 7 ∧ (after .derive State.reset).result = 1 ∧
      (after .detect { readyC with status := 0x05, tpl := [0] }).result = 2 ∧ (after .rxframe readyC).result = 2 ∧
      (after .unpack { readyC with arg0 := 1 }).result = 3 ∧ (after .deframe readyC).result = 3 ∧
      (after .unmap { readyC with status := 0x09, sv := [some 1, some 3] }).result = 3 ∧
      (after (.demod 1) noBins).result = 3 ∧ (after .rxframe noBins).result = 3 := by
  refine ⟨by decide, exec_after, by decide, by decide, by decide +kernel, by decide +kernel, by decide +kernel, by decide,
    by decide, by decide, by decide +kernel, ?_⟩
  have h : ∀ a : RxOutcome, a = rxFrame Config.num noBins.cfg noBins.geo noBins.rxs →
      a = .decodeError 0 0 1 .emptyBand 0 := fun a ha => ha.trans rxFrame_noBins
  have := h _ rfl
  simp only [after, exec, execRxframe]
  rw [configured_of_ready (by decide) (by decide), rxFrame_noBins]
  decide

theorem witness_CommandsOutOfSequenceAreRefused :
    State.reset.flag .halted = false ∧ State.reset.flag .cfgValid = false ∧ Instr.rxframe ≠ .nop ∧
      Instr.rxframe ≠ .derive ∧ Instr.rxframe ≠ .clrerr ∧
    readyC.flag .halted = false ∧ readyC.flag .cfgValid = true ∧ readyC.flag .svValid = false ∧
      readyC.flag .tplValid = false ∧ readyC.flag .synced = false := by decide

theorem witness_OperandsOutOfRangeAreRefused :
    (∀ s ∈ [readyC, noBins], s.flag .halted = false ∧ s.flag .cfgValid = true) ∧
    (readyC.syms.length ≤ 0 ∧ ({ readyC with syms := [0, 16] } : State).syms.length ≤ 2) ∧
    (noBins.flag .synced = true ∧ noBins.rxs.length < noBins.sync.dataStart + (2 + 1) * noBins.geo.nSymbol) ∧
    2 ^ readyC.cfg.lengthFieldBits ≤ ({ readyC with payload := List.replicate 256 true } : State).payload.length ∧
    (({ readyC with syms := [15, 16] } : State).syms[1]? = some 16 ∧ 2 ^ readyC.geo.bitsPerSymbol ≤ 16 ∧
      ∀ j y, j < 1 → ({ readyC with syms := [15, 16] } : State).syms[j]? = some y → y < 2 ^ readyC.geo.bitsPerSymbol) ∧
    (({ readyC with status := 0x09 } : State).flag .svValid = true ∧ [some 4, some 5] = ([4, 5] : BandVector).map some ∧
      ([4, 5] : BandVector)[1]? = some 5 ∧ readyC.geo.statesPerBand ≤ 5 ∧
      ∀ j e, j < 1 → ([4, 5] : BandVector)[j]? = some e → e < readyC.geo.statesPerBand) := by
  refine ⟨by simp only [List.forall_mem_cons]; decide, by decide, by decide, by decide +kernel, ⟨by decide, by decide, ?_⟩,
    by decide, by decide, by decide, by decide, ?_⟩ <;>
  · intro j y hj h
    obtain rfl : j = 0 := by omega
    simp at h
    subst h
    decide

/-- SETUP-c with capacities one below what a ten-bit payload or one window needs. -/
def tight : State :=
  { readyC with
    caps := ⟨some 17, some 4, some 79, none⟩, payload := List.replicate 10 true, fbits := List.replicate 17 true
    arg0 := 18, status := 0x0D, sv := [some 4, some 2], syms := [0, 1, 2, 15], rxs := List.replicate 400 0 }

theorem witness_ResultsOverCapacityAreRefused :
    (tight.flag .halted = false ∧ tight.flag .cfgValid = true) ∧
    (tight.payload.length < 2 ^ tight.cfg.lengthFieldBits ∧
      fits (tight.cfg.lengthFieldBits + tight.payload.length) tight.caps.bits = false) ∧
    fits (ceilDiv tight.fbits.length tight.geo.bitsPerSymbol) tight.caps.syms = false ∧
    ((∀ x ∈ tight.syms, x < 2 ^ tight.geo.bitsPerSymbol) ∧ fits tight.arg0 tight.caps.bits = false) ∧
    (tight.flag .svValid = true ∧ tight.sv = ([4, 2] : BandVector).map some ∧
      (∀ d ∈ ([4, 2] : BandVector), d < tight.geo.statesPerBand) ∧
      fits (tight.syms.length + 1) tight.caps.syms = false ∧
      fits (tight.txs.length + tight.geo.nSymbol) tight.caps.samples = false) ∧
    fits tight.geo.lPreamble tight.caps.samples = false ∧
    (tight.flag .tplValid = true ∧ fits (tight.geo.lPreamble + tight.geo.gGuard) tight.caps.samples = false) ∧
    fits (ceilDiv (tight.cfg.lengthFieldBits + tight.payload.length) tight.geo.bitsPerSymbol) tight.caps.syms = false ∧
    fits (tight.rxs.length / tight.geo.nSymbol) tight.caps.syms = false := by decide +kernel

theorem witness_ReplacingCommandsAreIdempotent :
    Instr.txframe ∈ [Instr.frame, .pack, .unpack, .deframe, .chirp, .txpre, .detect, .txframe, .rxframe] ∧
      (∃ k, Instr.map 3 = .map k) ∧ (∃ k, Instr.demod 1 = .demod k) ∧
      exec .txframe readyC = .next (after .txframe readyC) ∧ exec (.demod 1) noBins = .next (after (.demod 1) noBins) :=
  ⟨by decide, ⟨3, rfl⟩, ⟨1, rfl⟩, exec_after _ _, exec_after _ _⟩

/-- Each state the statement names is changed by some command. -/
theorem witness_EachStateHasItsWriters :
    (∀ (i : Instr) (s : State), exec i s = .next (after i s)) ∧
    (after .derive loadedC).geo ≠ loadedC.geo ∧ (after .detect noBins).sync ≠ noBins.sync ∧
      (after .deframe { readyC with fbits := bitsOf "000000011" }).payload ≠ readyC.payload ∧
      (after .derive loadedC).sv ≠ loadedC.sv ∧ (after (.map 0) { readyC with syms := [1] }).sv ≠ readyC.sv ∧
      (after .frame readyC).fbits ≠ readyC.fbits ∧ (after .pack { readyC with fbits := [true] }).syms ≠ readyC.syms ∧
      (after .chirp readyC).tpl ≠ readyC.tpl ∧ (after .txpre noBins).txs ≠ noBins.txs := by
  have h : ∀ {α : Type} {a b : List α}, a.length ≠ b.length → a ≠ b := fun h e => h (congrArg _ e)
  exact ⟨exec_after, by decide +kernel, by decide +kernel, by decide, by decide +kernel, by decide, by decide, by decide,
    h (by decide +kernel), h (by decide +kernel)⟩

/-- Each flag is changed by some command, in each direction the rule gives it. -/
theorem witness_EachFlagHasItsWriters :
    (∀ (i : Instr) (s : State), exec i s = .next (after i s)) ∧
    (after .derive loadedC).flag .cfgValid ≠ loadedC.flag .cfgValid ∧
      (after .derive State.reset).flag .halted ≠ State.reset.flag .halted ∧
      (after .chirp readyC).flag .tplValid ≠ readyC.flag .tplValid ∧
      (after (.map 0) { readyC with syms := [1] }).flag .svValid ≠ readyC.flag .svValid ∧
      (after (.demod 0) noBins).flag .svValid ≠ noBins.flag .svValid ∧
      (after .detect { noBins with status := 0x05 }).flag .synced ≠ false ∧
      (after .detect { noBins with rxs := [] }).flag .synced ≠ noBins.flag .synced :=
  ⟨exec_after, by decide +kernel, by decide +kernel, by decide, by decide, by decide +kernel, by decide +kernel,
    by decide +kernel⟩

theorem witness_OnlyUnpackReadsArg0 :
    Instr.rxframe ≠ .unpack ∧ exec .rxframe readyC = .next (after .rxframe readyC) := ⟨by decide, exec_after _ _⟩

theorem witness_NopAndClrerrTouchOnlyTheResults : readyC.flag .halted = false ∧ State.reset.flag .halted = false := by
  decide

theorem witness_DeriveWritesTheGeometry :
    loadedC.flag .halted = false ∧ loadedC.flag .cfgValid = false ∧ 0 < configC.sampleRate ∧
      0 < configC.symbolDuration ∧ 0 < configC.bandCount ∧ 0 < configC.step ∧ 0 < configC.preDuration ∧
      1 ≤ roundHE (configC.sampleRate * configC.symbolDuration) ∧
      1 ≤ roundHE (configC.sampleRate * configC.preDuration) ∧ 1 / configC.symbolDuration ≤ configC.step ∧
      2 ≤ ((configC.bandHigh - configC.bandLow) / (configC.bandCount : Rat) / configC.step).floor ∧
      fits configC.bandCount loadedC.caps.bands = true ∧ fits configC.bandCount (some 2) = true := by decide +kernel

/-- Four configurations, one for each cause; the last three are not degenerate, and each has no earlier cause. -/
theorem witness_DeriveHaltsOnTheFirstCause :
    let good (c : ConfigRegs) : Prop := 0 < c.sampleRate ∧ 0 < c.symbolDuration ∧ c.bandCount ≠ 0 ∧ 0 < c.step ∧
      0 < c.preDuration ∧ roundHE (c.sampleRate * c.symbolDuration) ≠ 0 ∧ roundHE (c.sampleRate * c.preDuration) ≠ 0
    let S (c : ConfigRegs) := ((c.bandHigh - c.bandLow) / (c.bandCount : Rat) / c.step).floor
    (loadedC.flag .halted = false ∧ loadedC.flag .cfgValid = false) ∧
    ({ configC with bandCount := 0 } : ConfigRegs).bandCount = 0 ∧
    (good { configC with step := 99 } ∧ (99 : Rat) < 1 / configC.symbolDuration) ∧
    (good { configC with step := 300 } ∧ ¬(300 : Rat) < 1 / configC.symbolDuration ∧ S { configC with step := 300 } < 2) ∧
    good configC ∧ ¬configC.step < 1 / configC.symbolDuration ∧ ¬S configC < 2 ∧
      fits configC.bandCount (some 1) = false := by
  refine ⟨?_, ?_, ⟨?_, ?_⟩, ⟨?_, ?_, ?_⟩, ?_, ?_, ?_, ?_⟩ <;> decide +kernel

theorem witness_DerivedGeometryMeetsTheInvariants :
    derive configC none = .ok geometryC ∧ derive configT (some 1) = .ok ⟨2, 2, 2, 1, 4, 1, 0, 0⟩ := by decide +kernel

theorem witness_RoundHalfEvenIsNearest :
    (3 : Int) ≠ roundHE (5 / 2) ∧ |(5 / 2 : Rat) - (roundHE (5 / 2) : Rat)| = |(5 / 2 : Rat) - ((3 : Int) : Rat)| := by
  have h : roundHE (5 / 2) = 2 := by decide +kernel
  rw [h]; norm_num

theorem witness_BigEndianValueAndBits : 255 < 2 ^ 8 ∧ 0 < 2 ^ 0 := by decide

theorem witness_PackChunksBigEndian :
    1 ≤ 1 ∧ 1 ≤ 4 ∧ (pack (bitsOf "10110") 4)[1]? = some 0 ∧ (pack (bitsOf "101") 1)[2]? = some 1 := by decide

theorem witness_UnpackInvertsPack : 1 ≤ 4 ∧ ∀ x ∈ [0, 15], x < 2 ^ 4 := by decide

theorem witness_FrameRoundTrip : (bitsOf "1").length < 2 ^ 1 ∧ ([] : List Bit).length < 2 ^ 0 ∧ 1 ≤ 1 := by decide

theorem witness_FrameAndPackWriteTheFrame :
    readyC.flag .halted = false ∧ readyC.flag .cfgValid = true ∧
      (List.replicate 255 true).length < 2 ^ readyC.cfg.lengthFieldBits ∧
      fits (readyC.cfg.lengthFieldBits + 255) (some 263) = true ∧
      fits (ceilDiv (List.replicate 263 true).length readyC.geo.bitsPerSymbol) (some 66) = true := by decide +kernel

theorem witness_UnpackWritesTheFrameBits :
    readyC.flag .halted = false ∧ readyC.flag .cfgValid = true ∧
      (∀ x ∈ [0, 15], x < 2 ^ readyC.geo.bitsPerSymbol) ∧ fits 9 readyC.caps.bits = true ∧
      8 ≤ [0, 15].length * readyC.geo.bitsPerSymbol ∧ [0, 15].length * readyC.geo.bitsPerSymbol < 9 := by decide

theorem witness_DeframeWritesThePayload :
    readyC.flag .halted = false ∧ readyC.flag .cfgValid = true ∧
      8 + beValue ((bitsOf "000000011").take 8) ≤ (bitsOf "000000011").length ∧ (bitsOf "0000000").length < 8 ∧
      (bitsOf "00000001").length < 8 + beValue ((bitsOf "00000001").take 8) := by decide

theorem witness_BandDigitsAreABijection :
    2 ≤ 5 ∧ 1 ≤ 2 ∧ 24 < 5 ^ 2 ∧ 1 < 2 ∧ ([4, 4] : BandVector).length = 2 ∧ ∀ d ∈ ([4, 4] : BandVector), d < 5 := by decide

theorem witness_MapWritesTheVector :
    readyC.flag .halted = false ∧ readyC.flag .cfgValid = true ∧
      ({ readyC with syms := [0, 15] } : State).syms[1]? = some 15 ∧ 15 < 2 ^ readyC.geo.bitsPerSymbol := by decide

/-- SETUP-c with a vector: symbol 15 for `[0, 3]`, symbol 16 for `[1, 3]`. -/
def withVector (v : BandVector) : State := { readyC with status := 0x0D, sv := v.map some, tpl := [0] }

theorem witness_UnmapAppendsTheSymbol :
    (∀ v : BandVector, (withVector v).flag .halted = false ∧ (withVector v).flag .cfgValid = true ∧
      (withVector v).flag .svValid = true ∧ (withVector v).sv = v.map some) ∧
    (∀ d ∈ ([0, 3] : BandVector), d < readyC.geo.statesPerBand) ∧
    (∀ d ∈ ([1, 3] : BandVector), d < readyC.geo.statesPerBand) ∧
    fits (readyC.syms.length + 1) readyC.caps.syms = true ∧
    (∑ b ∈ Finset.range 2, ([0, 3] : BandVector).getD b 0 * readyC.geo.statesPerBand ^ b) < 2 ^ readyC.geo.bitsPerSymbol ∧
    2 ^ readyC.geo.bitsPerSymbol ≤ ∑ b ∈ Finset.range 2, ([1, 3] : BandVector).getD b 0 * readyC.geo.statesPerBand ^ b :=
  ⟨fun _ => ⟨(by decide : (withVector []).flag .halted = false), (by decide : (withVector []).flag .cfgValid = true),
    (by decide : (withVector []).flag .svValid = true), rfl⟩, by decide, by decide, by decide, by decide, by decide⟩

theorem witness_ModulatedSampleIsTheMeanOfTheTones :
    ([4, 0] : BandVector).length = configC.bandCount ∧ 79 < geometryC.nSymbol := by decide

/-- The loop-back numerics keep the range. -/
theorem quarterNum_range : quarterNum.NPRange ∧ quarterNum.NPQRange ∧ quarterNum.NPZero := by
  refine ⟨fun x => ?_, fun x h h' => ⟨h, h'⟩, by simp only [Numerics.NPZero]; decide +kernel⟩
  simp only [quarterNum]
  constructor <;> constructor <;> split_ifs <;> norm_num

theorem witness_GeneratedSamplesStayInRange :
    quarterNum.NPRange ∧ quarterNum.NPQRange ∧ quarterNum.NPZero ∧ ([0, 3] : BandVector).length = configC.bandCount ∧
      1 ≤ configC.bandCount ∧
      (modulate quarterNum configC geometryC [0, 3])[0]? = some 0 ∧ (chirp quarterNum configC geometryC)[0]? = some 0 :=
  ⟨quarterNum_range.1, quarterNum_range.2.1, quarterNum_range.2.2, by decide, by decide, by decide +kernel,
    by decide +kernel⟩

theorem witness_ModAppendsTheWindow :
    (withVector [4, 4]).flag .halted = false ∧ (withVector [4, 4]).flag .cfgValid = true ∧
      (withVector [4, 4]).flag .svValid = true ∧ (withVector [4, 4]).sv = ([4, 4] : BandVector).map some ∧
      (∀ d ∈ ([4, 4] : BandVector), d < geometryC.statesPerBand) ∧
      fits ((withVector [4, 4]).txs.length + geometryC.nSymbol) (some 80) = true := by decide

/-- Silence in the small configuration: both bins of band 0 tie and the lowest wins. -/
theorem demodulate_zeros (num : Numerics) : demodulate num configT readyT.geo (List.replicate 4 0) = .ok [0] := by
  have h : bins configT readyT.geo 0 = [0, 1] := by decide +kernel
  have hp : peakBin num configT readyT.geo (List.replicate 4 0) 0 = some 0 := by
    rw [peakBin, h]
    simp only [power_zeros]
    simp [earliestMax]
  have hs : bandState num configT readyT.geo (List.replicate 4 0) 0 = .ok 0 := by
    rw [bandState, hp]; decide +kernel
  rw [demodulate_eq_ok]
  exact ⟨.cons hs .nil, by decide⟩

/-- The small configuration with its band off the bins and a finer step: silence has the step index 3. -/
def configOff : ConfigRegs := { configT with bandLow := 1 / 4, step := 1 / 4 }

/-- A geometry in which that step index is S. -/
def geoStep : Geometry := { readyT.geo with statesPerBand := 3 }

/-- A geometry in which it is a state, whose symbol 3 is not below 2^w. -/
def geoAlphabet : Geometry := { readyT.geo with statesPerBand := 4 }

/-- The peak bin of silence is the lowest of the band. -/
theorem peakBin_off (num : Numerics) (g : Geometry) (hg : g.bandWidth = 2 ∧ g.nSymbol = 4) :
    peakBin num configOff g (List.replicate 4 0) 0 = some 1 := by
  have h : bins configOff g 0 = [1, 2] := by
    simp only [bins, bandEdge, binFreq, hg.1, hg.2]; decide +kernel
  rw [peakBin, h, hg.2]
  simp only [power_zeros]
  simp [earliestMax]

theorem witness_DemodulatePicksEachBandsPeak :
    0 < configT.step ∧ demodulate Config.num configT readyT.geo (List.replicate 4 0) = .ok [0] ∧
      ([0] : BandVector)[0]? = some 0 := ⟨by decide +kernel, demodulate_zeros _, rfl⟩

/-- Silence with the step index S. -/
theorem demodulate_stepIndex (num : Numerics) :
    demodulate num configOff geoStep (List.replicate 4 0) = .error (.stepIndex, 0) := by
  have hp := peakBin_off num geoStep ⟨rfl, rfl⟩
  rw [demodulate_eq_error]
  exact .inl ⟨by decide, (bandState_eq_error _ _ _ _ _ _ _).2 ⟨rfl, .inr ⟨rfl, 1, hp, by decide +kernel⟩⟩,
    fun j hj => absurd hj (by omega)⟩

/-- Silence with a symbol outside the alphabet. -/
theorem demodulate_alphabet (num : Numerics) :
    demodulate num configOff geoAlphabet (List.replicate 4 0) = .error (.alphabet, 0) := by
  have hp := peakBin_off num geoAlphabet ⟨rfl, rfl⟩
  rw [demodulate_eq_error]
  exact .inr ⟨rfl, rfl, [3], .cons ((bandState_eq_ok _ _ _ _ _ _).2 ⟨1, hp, by decide +kernel, by decide +kernel⟩) .nil,
    by decide⟩

/-- Success and each of the three causes: an empty band, a step index of S, and a symbol of 2^w. -/
theorem witness_DemodulateReportsTheLowestFailure :
    (0 < configT.step ∧ 0 < noBins.cfg.step ∧ 0 < configOff.step) ∧
    demodulate Config.num configT readyT.geo (List.replicate 4 0) = .ok [0] ∧
    demodulate Config.num noBins.cfg noBins.geo [0] = .error (.emptyBand, 0) ∧
    demodulate Config.num configOff geoStep (List.replicate 4 0) = .error (.stepIndex, 0) ∧
    demodulate Config.num configOff geoAlphabet (List.replicate 4 0) = .error (.alphabet, 0) :=
  ⟨by decide +kernel, demodulate_zeros _, by decide +kernel, demodulate_stepIndex _, demodulate_alphabet _⟩

/-- The small set-up, synchronised on five zeros, with a configuration and geometry of its own. -/
def synced (c : ConfigRegs) (g : Geometry) : State :=
  { readyT with cfg := c, geo := g, status := 0x15, rxs := List.replicate 5 0, sync := ⟨0, 0, 1⟩ }

theorem witness_DemodWritesTheVector :
    (∀ c g, (synced c g).flag .halted = false ∧ (synced c g).flag .cfgValid = true ∧ (synced c g).flag .synced = true) ∧
    (∀ g ∈ [readyT.geo, geoStep, geoAlphabet],
      (synced configT g).sync.dataStart + (0 + 1) * g.nSymbol ≤ (synced configT g).rxs.length ∧
        ((synced configT g).rxs.drop ((synced configT g).sync.dataStart + 0 * g.nSymbol)).take g.nSymbol =
          List.replicate 4 0) ∧
    demodulate Config.num configT readyT.geo (List.replicate 4 0) = .ok [0] ∧
    demodulate Config.num configOff geoStep (List.replicate 4 0) = .error (.stepIndex, 0) ∧
    demodulate Config.num configOff geoAlphabet (List.replicate 4 0) = .error (.alphabet, 0) ∧
    (noBins.flag .halted = false ∧ noBins.flag .cfgValid = true ∧ noBins.flag .synced = true ∧
      noBins.sync.dataStart + (1 + 1) * noBins.geo.nSymbol ≤ noBins.rxs.length ∧
      demodulate Config.num noBins.cfg noBins.geo [0] = .error (.emptyBand, 0)) := by
  refine ⟨fun _ _ => ⟨(by decide : (synced configT readyT.geo).flag .halted = false),
      (by decide : (synced configT readyT.geo).flag .cfgValid = true),
      (by decide : (synced configT readyT.geo).flag .synced = true)⟩, ?_, demodulate_zeros _, demodulate_stepIndex _,
    demodulate_alphabet _, by decide, by decide, by decide, by decide, by decide +kernel⟩
  simp only [List.forall_mem_cons]
  decide +kernel

theorem witness_ChirpSamplesTheSweptPhase : 0 < geometryC.lPreamble ∧ 79 < geometryC.lPreamble := by decide

theorem witness_ChirpAndTxpreWriteThePreamble :
    (withVector []).flag .halted = false ∧ (withVector []).flag .cfgValid = true ∧ (withVector []).flag .tplValid = true ∧
      fits geometryC.lPreamble (some 80) = true ∧ fits (geometryC.lPreamble + geometryC.gGuard) (some 120) = true := by decide

theorem witness_DetectFindsTheEarliestPeak :
    detect [0, 1, 2, 1] [1, -1] 1 = .ok (2, 1) ∧ detect [0] [1, -1] 0 = .error .tooShort ∧
      detect [0, 1] [1, -1] 0 = .error .belowThreshold := by decide +kernel

theorem witness_DetectSynchronises :
    let s := { readyC with status := 0x05, tpl := [1, -1], rxs := [20, 0] }
    s.flag .halted = false ∧ s.flag .cfgValid = true ∧ s.flag .tplValid = true ∧
      detect s.rxs s.tpl s.cfg.syncThreshold = .ok (0, 20) ∧
      detect [0] s.tpl s.cfg.syncThreshold = .error .tooShort ∧
      detect [19, 0] s.tpl s.cfg.syncThreshold = .error .belowThreshold := by decide +kernel

theorem witness_TransmissionLayout :
    (pack (frameBits (bitsOf "1011001101") configC.lengthFieldBits) geometryC.bitsPerSymbol)[4]? = some 4 := by decide

theorem witness_TxframeWritesTheTransmission :
    readyC.flag .halted = false ∧ readyC.flag .cfgValid = true ∧ (bitsOf "1").length < 2 ^ readyC.cfg.lengthFieldBits ∧
    fits (beBits 1 8 ++ bitsOf "1").length (some 9) = true ∧ fits (pack (beBits 1 8 ++ bitsOf "1") 4).length (some 3) = true ∧
    fits (80 + 40 + (pack (beBits 1 8 ++ bitsOf "1") 4).length * 80) (some 360) = true ∧
    pack (beBits 1 8 ++ bitsOf "1") 4 = [0, 1] ++ [8] ∧ pack (beBits 0 0 ++ []) 4 = [] := by decide

theorem witness_TxframeEqualsThePrimitiveCommands :
    Inv captured ∧ captured.flag .halted = false ∧ exec .txframe captured = .next (after .txframe captured) ∧
      (after .txframe captured).result = 0 ∧ (after .txframe captured).syms = [1, 1] :=
  ⟨inv_captured, by decide, exec_after _ _, by decide, by decide⟩

/-- The small set-up receives the empty payload from five zeros. -/
theorem rxFrame_captured :
    rxFrame Config.num captured.cfg captured.geo captured.rxs = .ok 0 0 1 [0] [false] [] (some [0]) := by
  have h := detect_zeros 5 (chirp Config.num captured.cfg captured.geo) 0 (by simp [captured, readyT]) le_rfl
  have h' : detect captured.rxs (chirp Config.num captured.cfg captured.geo) captured.cfg.syncThreshold = .ok (0, 0) := h
  have hd : demodWindows Config.num captured.cfg captured.geo captured.rxs 1 0 1 = .ok [[0]] := by
    have hw : demodulate Config.num captured.cfg captured.geo (window captured.rxs 1 captured.geo.nSymbol 0) = .ok [0] :=
      demodulate_zeros Config.num
    rw [demodWindows, show List.range' 0 1 = [0] from rfl]
    simp only [collect, hw]
  rw [rxFrame, h']
  have hk : (0 : Nat) + captured.geo.lPreamble + captured.geo.gGuard = 1 := rfl
  have hk0 : ceilDiv captured.cfg.lengthFieldBits captured.geo.bitsPerSymbol = 1 := by decide
  simp only [hk, hk0, hd]
  decide

/-- The small set-up with a configuration and geometry of its own and m samples of silence captured. -/
def hearing (c : ConfigRegs) (g : Geometry) (m : Nat) : State :=
  { readyT with cfg := c, geo := g, rxs := List.replicate m 0 }

/-- The small configuration with a threshold that silence does not reach. -/
def configDeaf : ConfigRegs := { configT with syncThreshold := 1 }

/-- Two samples of silence are too few for the header window. -/
theorem rxFrame_short : rxFrame Config.num configT readyT.geo (List.replicate 2 0) = .decodeError 0 0 1 .length 0 := by
  rw [rxFrame, detect_zeros 2 _ _ (by simp [readyT]) (by decide +kernel)]
  decide

/-- The header window of five samples of silence fails as `demodulate` does on it. -/
theorem rxFrame_failing {g : Geometry} {e : DecodeCause} (hg : g = geoStep ∨ g = geoAlphabet)
    (hd : demodulate Config.num configOff g (List.replicate 4 0) = .error (e, 0)) :
    rxFrame Config.num configOff g (List.replicate 5 0) = .decodeError 0 0 1 e 0 := by
  have hw : demodWindows Config.num configOff g (List.replicate 5 0) 1 0 1 = .error (e, 0) := by
    have hx : window (List.replicate 5 (0 : Rat)) 1 g.nSymbol 0 = List.replicate 4 0 := by
      rcases hg with rfl | rfl <;> decide +kernel
    rw [demodWindows, show List.range' 0 1 = [0] from rfl]
    simp only [collect, hx, hd]
    cases e <;> rfl
  have hk : ceilDiv configOff.lengthFieldBits g.bitsPerSymbol = 1 ∧ 0 + g.lPreamble + g.gGuard = 1 ∧
      ¬(List.replicate 5 (0 : Rat)).length < 1 + 1 * g.nSymbol := by rcases hg with rfl | rfl <;> decide
  rw [rxFrame, detect_zeros 5 _ _ (by rcases hg with rfl | rfl <;> simp [geoStep, geoAlphabet, readyT])
    (by decide +kernel)]
  simp only [hk.1, hk.2.1, hk.2.2, if_false, hw]

theorem witness_RxframeWritesTheFrame :
    (∀ s ∈ [captured, readyC, hearing configDeaf readyT.geo 5, hearing configT readyT.geo 2, hearing configOff geoStep 5,
        hearing configOff geoAlphabet 5, noBins],
      s.flag .halted = false ∧ s.flag .cfgValid = true ∧ fits s.geo.lPreamble s.caps.samples = true ∧
        fits (s.rxs.length / s.geo.nSymbol) s.caps.syms = true ∧
        fits (s.rxs.length / s.geo.nSymbol * s.geo.bitsPerSymbol) s.caps.bits = true) ∧
    rxFrame Config.num captured.cfg captured.geo captured.rxs = .ok 0 0 1 [0] [false] [] (some [0]) ∧
    rxFrame Config.num configC geometryC readyC.rxs = .syncError .tooShort ∧
    rxFrame Config.num configDeaf readyT.geo (List.replicate 5 0) = .syncError .belowThreshold ∧
    rxFrame Config.num configT readyT.geo (List.replicate 2 0) = .decodeError 0 0 1 .length 0 ∧
    rxFrame Config.num configOff geoStep (List.replicate 5 0) = .decodeError 0 0 1 .stepIndex 0 ∧
    rxFrame Config.num configOff geoAlphabet (List.replicate 5 0) = .decodeError 0 0 1 .alphabet 0 ∧
    rxFrame Config.num noBins.cfg noBins.geo noBins.rxs = .decodeError 0 0 1 .emptyBand 0 := by
  refine ⟨?_, rxFrame_captured, by decide +kernel, ?_, rxFrame_short,
    rxFrame_failing (.inl rfl) (demodulate_stepIndex _),
    rxFrame_failing (.inr rfl) (demodulate_alphabet _), rxFrame_noBins⟩
  · simp only [List.forall_mem_cons]
    decide +kernel
  · rw [rxFrame, detect_zeros_below 5 _ _ (by simp [readyT]) (by decide +kernel)]

theorem witness_RxframeEqualsThePrimitiveCommands :
    Inv captured ∧ captured.flag .halted = false ∧ exec .rxframe captured = .next (after .rxframe captured) ∧
      (after .rxframe captured).result = 0 := by
  refine ⟨inv_captured, by decide, exec_after _ _, ?_⟩
  simp only [after, exec, execRxframe]
  rw [configured_of_ready (by decide) (by decide), rxFrame_captured]
  decide

/-- The loop-back configuration: a chirp of two samples 0, 1 that the threshold 1 finds. -/
def configL : ConfigRegs := { configT with preDuration := 1 / 2, preStartFreq := 1, preEndFreq := 1, syncThreshold := 1 }

/-- A geometry of that configuration with a band of three bins, the third one past the states. -/
def geoL : Geometry := ⟨3, 2, 2, 1, 4, 2, 0, 0⟩

/-- Each step of rule R188 on a capture that reaches it: no offset, nothing above the threshold, no header window, a header
window past the states, no further window for the length 1 read, that window past the states, and a whole frame. -/
theorem witness_RxFrameAnswersItsSteps :
    let tpl := chirp quarterNum configL geoL
    let one : List Sample := [0, 1, 0, -1]
    let past : List Sample := [1, -1, 1, -1]
    let dec := demodulate quarterNum configL geoL
    (detect [0] tpl 1 = .error .tooShort ∧ detect [0, 0, 0] tpl 1 = .error .belowThreshold) ∧
    (∀ rx ∈ [[0, 1, 0], [0, 1] ++ past, [0, 1] ++ one, [0, 1] ++ one ++ past, [0, 1] ++ one ++ one],
      detect rx tpl configL.syncThreshold = .ok (0, 1)) ∧
    ceilDiv configL.lengthFieldBits geoL.bitsPerSymbol = 1 ∧ ceilDiv (configL.lengthFieldBits + 1) geoL.bitsPerSymbol = 2 ∧
    dec one = .ok [1] ∧ dec past = .error (.stepIndex, 0) ∧
    beValue ((([[1]] : List BandVector).flatMap fun v => beBits (fromStates 2 v) 1).take 1) = 1 ∧
    rxFrame quarterNum configL geoL [0, 1, 0] = .decodeError 0 1 2 .length 0 ∧
    rxFrame quarterNum configL geoL ([0, 1] ++ past) = .decodeError 0 1 2 .stepIndex 0 ∧
    rxFrame quarterNum configL geoL ([0, 1] ++ one) = .decodeError 0 1 2 .length 0 ∧
    rxFrame quarterNum configL geoL ([0, 1] ++ one ++ past) = .decodeError 0 1 2 .stepIndex 0 ∧
    rxFrame quarterNum configL geoL ([0, 1] ++ one ++ one) = .ok 0 1 2 [1, 1] [true, true] [true] (some [1]) := by
  simp only [List.forall_mem_cons]
  decide +kernel

theorem witness_LoopbackReturnsThePayload :
    let g : Geometry := ⟨2, 2, 2, 1, 4, 2, 0, 0⟩
    derive configL none = .ok g ∧ [true].length < 2 ^ configL.lengthFieldBits ∧
      detect (List.replicate 1 0 ++ txWaveform quarterNum configL g [true] ++ [0, 0])
        (chirp quarterNum configL g) configL.syncThreshold = .ok (1, 1) ∧
      pack (frameBits [true] configL.lengthFieldBits) g.bitsPerSymbol = [1, 1] ∧
      demodulate quarterNum configL g (modulate quarterNum configL g (toStates 1 2 1)) = .ok (toStates 1 2 1) := by
  decide +kernel

theorem witness_HostWritesObeyTheRegisterClass :
    (loadedC.withMove (.writeReg 4 3)).pending = .writeReg 4 3 :: [] ∧ 4 ≠ 36 ∧
      (loadedC.withMove (.writeReg 4 3)).flag .halted = false ∧
      (loadedC.withMove (.writeReg 4 3)).flag .cfgValid = false ∧ (∃ n : Nat, (3 : Rat) = (n : Rat)) ∧
      (readyC.withMove (.writeReg 12 18)).flag .halted = false ∧ ¬(11 < 12 ∧ readyC.flag .cfgValid = false) ∧
      ¬∃ n : Nat, (1 / 2 : Rat) = (n : Rat) := by
  refine ⟨rfl, by decide, by decide, by decide, ⟨3, by norm_num⟩, by decide, by decide, ?_⟩
  rintro ⟨n, hn⟩
  have : (1 : Rat) = ((2 * n : Nat) : Rat) := by push_cast; linarith
  have : (1 : Nat) = 2 * n := by exact_mod_cast this
  omega

theorem witness_ReservedRegistersAndTheCommandPort :
    27 ∈ [13, 14, 15, 27, 28, 29, 30, 31] ∧ 37 ≤ 37 ∧ (readyC.withMove (.issue 0xFFFFFFFF)).flag .halted = false ∧
      (readyC.withMove (.issue 0xFFFFFFFF)).pending = .issue 0xFFFFFFFF :: [] := by decide

theorem witness_HostReadsChangeNothing :
    (readyC.withMove (.readReg 36)).pending = .readReg 36 :: [] ∧ (halted.withMove (.read .tpl)).pending = .read .tpl :: [] ∧
      (readyC.withMove .readSv).pending = .readSv :: [] := by decide

theorem witness_HostLoadsReplaceOneBuffer :
    (readyC.withMove (.load .syms (.symbols [99]))).pending = .load .syms (.symbols [99]) :: [] ∧
      (readyC.withMove (.load .syms (.symbols [99]))).flag .halted = false ∧ fits [99].length readyC.caps.syms = true ∧
      Buffer.rxs ≠ .syms ∧ Buffer.syms ≠ .rxs ∧ fits [true, true].length (some 1) = false ∧ Buffer.tpl ≠ .rxs := by
  refine ⟨rfl, ?_, ?_, ?_, ?_, ?_, ?_⟩ <;> decide

theorem witness_NewCaptureClearsTheSynchronisation :
    (readyC.withMove (.load .rxs (.samples [0]))).pending = .load .rxs (.samples [0]) :: [] ∧
      (readyC.withMove (.load .rxs (.samples [0]))).flag .halted = false ∧ fits [(0 : Sample)].length (some 1) = true :=
  ⟨rfl, by decide, by decide⟩

theorem witness_HostWritesTheWholeVector :
    (readyC.withMove (.writeSv [0, 9])).pending = .writeSv [0, 9] :: [] ∧
      (readyC.withMove (.writeSv [0, 9])).flag .halted = false ∧
      (readyC.withMove (.writeSv [0, 9])).flag .cfgValid = true ∧ ([0, 9] : BandVector).length = readyC.cfg.bandCount ∧
      loadedC.flag .cfgValid = false ∧ ([1] : BandVector).length ≠ readyC.cfg.bandCount := by decide
end Sys2Proof.Tests
end

section
/-! SUPPORT. Two functions of the scope: rounding to the nearest integer and big-endian bit sequences (rules R12, R14). -/

namespace Sys2Proof.Proofs

open Sys2Proof.Machine Sys2Proof.Safety

/-! ### Rounding (rule R12) -/

/-- `round_he x` is at most a half away from x, and even where it is exactly a half away. -/
theorem abs_sub_roundHE (x : Rat) :
    |x - (roundHE x : Rat)| ≤ 1 / 2 ∧ (|x - (roundHE x : Rat)| = 1 / 2 → roundHE x % 2 = 0) := by
  have hlo := floor_le_self x
  have hhi := lt_floor_add_one x
  unfold roundHE
  split_ifs with hbelow habove heven
  · rw [abs_of_nonneg (by linarith)]
    exact ⟨hbelow.le, fun h => absurd h hbelow.ne⟩
  · push_cast
    rw [abs_of_neg (by linarith)]
    exact ⟨by linarith, fun h => by linarith⟩
  · rw [abs_of_nonneg (by linarith)]
    exact ⟨not_lt.1 habove, fun _ => heven⟩
  · push_cast
    rw [abs_of_neg (by linarith)]
    exact ⟨by linarith, fun _ => by omega⟩

/-- Two different integers are at least 1 apart, so their distances to x sum to at least 1. -/
theorem one_le_abs_sub_add_abs_sub (x : Rat) {m n : Int} (h : m ≠ n) : 1 ≤ |x - (n : Rat)| + |x - (m : Rat)| := by
  have hmn : (1 : Rat) ≤ |(m : Rat) - n| := by exact_mod_cast Int.one_le_abs (sub_ne_zero.2 h)
  calc (1 : Rat) ≤ |(m : Rat) - n| := hmn
    _ ≤ |(m : Rat) - x| + |x - n| := abs_sub_le _ _ _
    _ = |x - (n : Rat)| + |x - (m : Rat)| := by rw [abs_sub_comm (m : Rat) x, add_comm]

/-- Settles O26: within a half of x, `round_he x` is nearest, as another integer's distance makes up at least 1. -/
theorem roundHalfEvenIsNearest : Obligations.RoundHalfEvenIsNearest := by
  intro x m
  obtain ⟨hhalf, heven⟩ := abs_sub_roundHE x
  by_cases hm : m = roundHE x
  · exact ⟨by rw [hm], fun h => absurd hm h⟩
  · have hsum := one_le_abs_sub_add_abs_sub x hm
    exact ⟨by linarith, fun _ heq => heven (by linarith)⟩

/-! ### Big-endian bit sequences (rule R14) -/

theorem bitValue_eq_toNat (b : Bool) : bitValue b = b.toNat := by cases b <;> rfl

theorem beValue_lt (b : List Bool) : beValue b < 2 ^ b.length := by
  induction b with
  | nil => simp [beValue]
  | cons x xs ih =>
    have hx : bitValue x ≤ 1 := bitValue_eq_toNat x ▸ x.toNat_le
    have := Nat.mul_le_mul_right (2 ^ xs.length) hx
    rw [beValue, List.length_cons, pow_succ]
    omega

/-- The most significant bit first, then the bits of the rest. -/
theorem beBits_succ (v n : Nat) : beBits v (n + 1) = v.testBit n :: beBits v n := by
  simp only [beBits, List.range_succ_eq_map, List.map_cons, List.map_map]
  refine congrArg _ (List.map_congr_left fun j _ => ?_)
  rw [Function.comp_apply, show n + 1 - 1 - j.succ = n - 1 - j by omega]

/-- `be_bits(v, n)` sees the low n bits of v alone. -/
theorem beBits_two_pow_mul_add (a v n : Nat) (hv : v < 2 ^ n) : beBits (2 ^ n * a + v) n = beBits v n := by
  refine List.map_congr_left fun j hj => ?_
  have hj' : j < n := List.mem_range.1 hj
  rw [Nat.testBit_two_pow_mul_add a hv, if_pos (by omega)]

theorem beValue_beBits (v n : Nat) : beValue (beBits v n) = v % 2 ^ n := by
  induction n with
  | zero => simp [beBits, beValue, Nat.mod_one]
  | succ n ih =>
    rw [beBits_succ, beValue, ih, length_beBits, bitValue_eq_toNat, Nat.toNat_testBit, Nat.mod_pow_succ]
    ring

theorem beBits_beValue (b : List Bool) : beBits (beValue b) b.length = b := by
  induction b with
  | nil => rfl
  | cons x xs ih =>
    have hlt := beValue_lt xs
    have htop : (2 ^ xs.length * bitValue x + beValue xs).testBit xs.length = x := by
      rw [Nat.testBit_two_pow_mul_add _ hlt]
      cases x <;> simp [bitValue]
    rw [beValue, List.length_cons, mul_comm, beBits_succ, htop, beBits_two_pow_mul_add _ _ _ hlt, ih]

/-- `be_value` as the sum of the weights of its bits. -/
theorem beValue_eq_sum (b : List Bool) :
    beValue b = ∑ j ∈ Finset.range b.length, (if b.getD j false then 1 else 0) * 2 ^ (b.length - 1 - j) := by
  induction b with
  | nil => rfl
  | cons x xs ih =>
    rw [beValue, ih, List.length_cons, Finset.sum_range_succ', add_comm]
    congr 1
    refine Finset.sum_congr rfl fun j _ => ?_
    rw [List.getD_cons_succ, show xs.length + 1 - 1 - (j + 1) = xs.length - 1 - j by omega]

/-- Settles O27: the sum by induction on the bits, the two inverses by the most significant bit. -/
theorem bigEndianValueAndBits : Obligations.BigEndianValueAndBits :=
  ⟨beValue_eq_sum, fun v n hv => ⟨length_beBits v n, (beValue_beBits v n).trans (Nat.mod_eq_of_lt hv)⟩,
    beBits_beValue⟩

end Sys2Proof.Proofs
end

section
/-! SUPPORT. The geometry that `derive` accepts (rules R29, R92). -/

namespace Sys2Proof.Proofs

open Sys2Proof.Machine Sys2Proof.Safety

/-- Settles O25: the checks that `derive` has passed, with 2 ≤ 2^B ≤ S^B for the bits per symbol. -/
theorem derivedGeometryMeetsTheInvariants : Obligations.DerivedGeometryMeetsTheInvariants := by
  intro c cap g h
  obtain ⟨⟨-, -, hbands, -, -⟩, ⟨hN, hL⟩, hstep, hstates, -, rfl⟩ := (derive_eq_ok c cap g).1 h
  have hS : 2 ≤ c.statesPerBand.toNat := by omega
  have halphabet : 2 ≤ c.statesPerBand.toNat ^ c.bandCount :=
    hS.trans (Nat.le_self_pow hbands _)
  have hw : 1 ≤ Nat.log2 (c.statesPerBand.toNat ^ c.bandCount) :=
    (Nat.le_log2 (by omega)).2 (by simpa using halphabet)
  exact ⟨hS, hw, rfl, Nat.log2_self_le (by omega), Nat.lt_log2_self, hstep, Nat.one_le_iff_ne_zero.2 hN,
    Nat.one_le_iff_ne_zero.2 hL, Nat.one_le_iff_ne_zero.2 hbands⟩

end Sys2Proof.Proofs
end

section
/-! SUPPORT. Results over capacity (rules R9, R197): the commands that check a capacity refuse such a result. -/

namespace Sys2Proof.Proofs

open Sys2Proof.Machine Sys2Proof.Safety

/-- The refusal of every capacity check, in the registers' layout (rule R205). -/
theorem raiseErr_capacity (s : State) : raiseErr .operandError 3 s = failed s 5 3 0 :=
  raiseAt_eq_failed (by decide) 3 0 s

section OverCapacity
variable {s : State} (hrun : s.flag .halted = false) (hcfg : s.flag .cfgValid = true)
include hrun hcfg

theorem execFrame_over_capacity (hlen : s.payload.length < 2 ^ s.cfg.lengthFieldBits)
    (hcap : fits (s.cfg.lengthFieldBits + s.payload.length) s.caps.bits = false) :
    execFrame s = .next (failed s 5 3 0) := by
  rw [execFrame, configured_of_ready hrun hcfg, if_neg (not_le.2 hlen), if_pos hcap, raiseErr_capacity]

theorem execPack_over_capacity (hcap : fits (ceilDiv s.fbits.length s.geo.bitsPerSymbol) s.caps.syms = false) :
    execPack s = .next (failed s 5 3 0) := by
  rw [execPack, configured_of_ready hrun hcfg, if_pos hcap, raiseErr_capacity]

theorem execUnpack_over_capacity (hsyms : ∀ x ∈ s.syms, x < 2 ^ s.geo.bitsPerSymbol)
    (hcap : fits s.arg0 s.caps.bits = false) : execUnpack s = .next (failed s 5 3 0) := by
  rw [execUnpack, configured_of_ready hrun hcfg, (firstNotBelow_eq_none _ _).2 hsyms]
  simp only [hcap, if_true, raiseErr_capacity]

theorem execUnmap_over_capacity {v : BandVector} (hv : s.svValue = some v) (hdigits : ∀ d ∈ v, d < s.geo.statesPerBand)
    (hcap : fits (s.syms.length + 1) s.caps.syms = false) : execUnmap s = .next (failed s 5 3 0) := by
  rw [execUnmap, configured_of_ready hrun hcfg, hv]
  simp only [(firstNotBelow_eq_none _ _).2 hdigits, hcap, if_true, raiseErr_capacity]

theorem execMod_over_capacity {v : BandVector} (hv : s.svValue = some v) (hdigits : ∀ d ∈ v, d < s.geo.statesPerBand)
    (hcap : fits (s.txs.length + s.geo.nSymbol) s.caps.samples = false) : execMod s = .next (failed s 5 3 0) := by
  rw [execMod, configured_of_ready hrun hcfg, hv]
  simp only [(firstNotBelow_eq_none _ _).2 hdigits, hcap, if_true, raiseErr_capacity]

theorem execChirp_over_capacity (hcap : fits s.geo.lPreamble s.caps.samples = false) :
    execChirp s = .next (failed s 5 3 0) := by
  rw [execChirp, configured_of_ready hrun hcfg, if_pos hcap, raiseErr_capacity]

theorem execTxpre_over_capacity (htpl : s.flag .tplValid = true)
    (hcap : fits (s.geo.lPreamble + s.geo.gGuard) s.caps.samples = false) : execTxpre s = .next (failed s 5 3 0) := by
  rw [execTxpre, configured_of_ready hrun hcfg, if_neg (by simp [htpl]), if_pos hcap, raiseErr_capacity]

theorem execTxframe_over_capacity (hlen : s.payload.length < 2 ^ s.cfg.lengthFieldBits)
    (hcap : fits (s.cfg.lengthFieldBits + s.payload.length) s.caps.bits = false ∨
      fits (ceilDiv (s.cfg.lengthFieldBits + s.payload.length) s.geo.bitsPerSymbol) s.caps.syms = false ∨
      fits (s.geo.lPreamble + s.geo.gGuard +
        ceilDiv (s.cfg.lengthFieldBits + s.payload.length) s.geo.bitsPerSymbol * s.geo.nSymbol) s.caps.samples = false) :
    execTxframe s = .next (failed s 5 3 0) := by
  rw [execTxframe, configured_of_ready hrun hcfg, if_neg (not_le.2 hlen), if_pos hcap, raiseErr_capacity]

theorem execRxframe_over_capacity
    (hcap : fits s.geo.lPreamble s.caps.samples = false ∨ fits (s.rxs.length / s.geo.nSymbol) s.caps.syms = false ∨
      fits (s.rxs.length / s.geo.nSymbol * s.geo.bitsPerSymbol) s.caps.bits = false) :
    execRxframe s = .next (failed s 5 3 0) := by
  rw [execRxframe, configured_of_ready hrun hcfg, if_pos hcap, raiseErr_capacity]

end OverCapacity

/-- Settles O17: each command's capacity check, the checks before it having passed. -/
theorem resultsOverCapacityAreRefused : Obligations.ResultsOverCapacityAreRefused := by
  intro s hrun hcfg
  refine ⟨execFrame_over_capacity hrun hcfg, execPack_over_capacity hrun hcfg, execUnpack_over_capacity hrun hcfg, ?_,
    execChirp_over_capacity hrun hcfg, execTxpre_over_capacity hrun hcfg, execTxframe_over_capacity hrun hcfg,
    execRxframe_over_capacity hrun hcfg⟩
  intro v hvalid hsv hdigits
  have hv := (svValue_eq_some s v).2 ⟨hvalid, hsv⟩
  exact ⟨execUnmap_over_capacity hrun hcfg hv hdigits, execMod_over_capacity hrun hcfg hv hdigits⟩

end Sys2Proof.Proofs
end

section
/-! SUPPORT. The host's loads (rules R39 to R41, R63). -/

namespace Sys2Proof.Proofs

open Sys2Proof.Machine Sys2Proof.Safety

theorem step_of_pending {s : State} {m : HostMove} {rest : List HostMove} (h : s.pending = m :: rest) :
    step s = hostMove m { s with pending := rest } := by
  rw [step, nextMove, h]

/-- While not HALTED, the step of a load is the load (rule R63). -/
theorem step_load {s : State} {buf : Buffer} {d : BufData} {rest : List HostMove} (h : s.pending = .load buf d :: rest)
    (hrun : s.flag .halted = false) : step s = .next ({ s with pending := rest }.loadBuffer buf d) := by
  have hrun' : { s with pending := rest }.flag .halted = false := hrun
  rw [step_of_pending h, hostMove, hostLoad, hrun', if_neg Bool.false_ne_true]

/-- The data is of the buffer's type and fits its capacity, so that a load of it is performed (rules R9, R39, R40). -/
def Loadable (caps : Caps) : Buffer → BufData → Prop
  | .payload, .bits b => fits b.length caps.bits = true
  | .fbits, .bits b => fits b.length caps.bits = true
  | .syms, .symbols x => fits x.length caps.syms = true
  | .txs, .samples x => fits x.length caps.samples = true
  | .rxs, .samples x => fits x.length caps.samples = true
  | _, _ => False

theorem loadBuffer_of_not_loadable {s : State} {buf : Buffer} {d : BufData} (h : ¬Loadable s.caps buf d) :
    s.loadBuffer buf d = s := by
  fun_cases State.loadBuffer s buf d with
  | case1 | case3 | case5 | case7 | case9 => exact absurd ‹fits _ _ = true› h
  | case2 | case4 | case6 | case8 | case10 | case11 => rfl

theorem readBuffer_loadBuffer_same {s : State} {buf : Buffer} {d : BufData} (h : Loadable s.caps buf d) :
    (s.loadBuffer buf d).readBuffer buf = d := by
  revert h
  fun_cases Loadable s.caps buf d with
  | case1 | case2 | case3 | case4 | case5 =>
    intro h
    rw [State.loadBuffer, if_pos h]
    rfl
  | case6 => exact False.elim

theorem readBuffer_loadBuffer_of_ne (s : State) {buf other : Buffer} (d : BufData) (h : other ≠ buf) :
    (s.loadBuffer buf d).readBuffer other = s.readBuffer other := by
  fun_cases State.loadBuffer s buf d with
  | case1 | case3 | case5 | case7 | case9 => cases other <;> simp_all [State.readBuffer]
  | case2 | case4 | case6 | case8 | case10 | case11 => rfl

/-- Only a load of `RXS` changes a register (rule R41). -/
theorem readReg_loadBuffer (s : State) {buf : Buffer} (d : BufData) (h : buf ≠ .rxs) (no : Nat) :
    (s.loadBuffer buf d).readReg no = s.readReg no := by
  fun_cases State.loadBuffer s buf d with
  | case9 => exact absurd rfl h
  | case1 | case2 | case3 | case4 | case5 | case6 | case7 | case8 | case10 | case11 => rfl

/-- Settles O57: a load that is performed puts the data in its buffer and leaves what the two frame lemmas name; any other
load leaves the state. -/
theorem hostLoadsReplaceOneBuffer : Obligations.HostLoadsReplaceOneBuffer := by
  intro s buf d rest hp hrun fitsIt
  have hfits : fitsIt ↔ Loadable s.caps buf d := Iff.rfl
  rw [step_load hp hrun, hfits]
  refine ⟨fun h => ⟨_, rfl, readBuffer_loadBuffer_same h, fun other ho => ?_, loadBuffer_sv _ buf d, fun hb no => ?_⟩,
    fun h => congrArg _ (loadBuffer_of_not_loadable h)⟩
  · exact readBuffer_loadBuffer_of_ne { s with pending := rest } d ho
  · exact readReg_loadBuffer { s with pending := rest } d hb no

end Sys2Proof.Proofs
end

section
/-! SUPPORT. The lengths of what the receiver's functions answer (rules R107, R111, R156, R188). -/

namespace Sys2Proof.Proofs

open Sys2Proof.Machine Sys2Proof.Safety

theorem length_unpack_le (symbols : List Nat) (w total : Nat) :
    (unpack symbols w total).length ≤ total ∧ (unpack symbols w total).length ≤ symbols.length * w := by
  simp [unpack, List.length_flatMap]

theorem length_slice_le {α : Type} (x : List α) (i j : Nat) : (slice x i j).length ≤ x.length := by
  rw [length_slice]; omega

theorem length_of_parseFrame {fbits p : List Bit} {lfb : Nat} (h : parseFrame fbits lfb = .ok p) :
    p.length ≤ fbits.length := by
  unfold parseFrame at h
  split_ifs at h
  cases h
  exact length_slice_le _ _ _

section Frame

variable {num : Numerics} {c : ConfigRegs} {g : Geometry}

theorem length_of_demodulate {x : List Sample} {v : BandVector} (h : demodulate num c g x = .ok v) :
    v.length = c.bandCount := by
  simpa using ((demodulate_eq_ok num c g x v).1 h).1.length_eq.symm

/-- One vector of `B` elements for each window. -/
theorem demodWindows_ok {rx : List Sample} {ds first count : Nat} {vs : List BandVector}
    (h : demodWindows num c g rx ds first count = .ok vs) :
    vs.length = count ∧ ∀ v ∈ vs, v.length = c.bandCount := by
  obtain ⟨hlen, hvs⟩ := (collect_range'_eq_ok _ _ _ _).1 h
  refine ⟨hlen, fun v hv => ?_⟩
  obtain ⟨i, hi⟩ := List.mem_iff_getElem?.1 hv
  have hdemod := hvs i v hi
  split at hdemod
  · cases hdemod
  next u hu =>
    cases hdemod
    exact length_of_demodulate hu

/-- What `rx_frame` can answer after a detection at p (rule R188): a failed frame, or what the vectors of whole windows
inside the capture give. -/
def FrameFrom (c : ConfigRegs) (g : Geometry) (rx : List Sample) (p : Nat × Rat) (o : RxOutcome) : Prop :=
  (∃ cause index, o = .decodeError p.1 p.2 (p.1 + g.lPreamble + g.gGuard) cause index) ∨
    ∃ (vs : List BandVector) (n : Nat), (∀ v ∈ vs, v.length = c.bandCount) ∧ vs.length * g.nSymbol ≤ rx.length ∧
      o = .ok p.1 p.2 (p.1 + g.lPreamble + g.gGuard) (vs.map (fromStates g.statesPerBand))
        (unpack (vs.map (fromStates g.statesPerBand)) g.bitsPerSymbol (c.lengthFieldBits + n))
        (slice (unpack (vs.map (fromStates g.statesPerBand)) g.bitsPerSymbol (c.lengthFieldBits + n))
          c.lengthFieldBits (c.lengthFieldBits + n))
        vs.getLast?

theorem frameFrom_rxBody {rx : List Sample} {p : Nat × Rat} {header : List BandVector}
    (hbands : ∀ v ∈ header, v.length = c.bandCount) (hinside : header.length * g.nSymbol ≤ rx.length) :
    FrameFrom c g rx p (rxBody num c g rx p.1 p.2 (p.1 + g.lPreamble + g.gGuard) header) := by
  simp only [rxBody]
  generalize beValue _ = n
  split_ifs with hshort
  · exact .inl ⟨_, _, rfl⟩
  · split
    · exact .inl ⟨_, _, rfl⟩
    next rest hrest =>
      obtain ⟨hcount, hrestBands⟩ := demodWindows_ok hrest
      refine .inr ⟨header ++ rest, n, fun v hv => (List.mem_append.1 hv).elim (hbands v) (hrestBands v), ?_, rfl⟩
      rw [List.length_append, hcount]
      rcases Nat.le_total (ceilDiv (c.lengthFieldBits + n) g.bitsPerSymbol) header.length with hle | hle
      · rwa [Nat.sub_eq_zero_of_le hle, Nat.add_zero]
      · rw [Nat.add_sub_cancel' hle]
        omega

/-- What `rx_frame` can answer: no preamble, or a frame from the detection of `chirp()` in the capture (rule R188). -/
theorem rxFrame_cases (num : Numerics) (c : ConfigRegs) (g : Geometry) (rx : List Sample) :
    (∃ e, rxFrame num c g rx = .syncError e) ∨
      ∃ p, detect rx (chirp num c g) c.syncThreshold = .ok p ∧ FrameFrom c g rx p (rxFrame num c g rx) := by
  unfold rxFrame
  split
  next e _ => exact .inl ⟨e, rfl⟩
  next p hp =>
    refine .inr ⟨p, hp, ?_⟩
    simp only
    split_ifs with hshort
    · exact .inl ⟨_, _, rfl⟩
    · split
      · exact .inl ⟨_, _, rfl⟩
      next header hheader =>
        obtain ⟨hcount, hbands⟩ := demodWindows_ok hheader
        exact frameFrom_rxBody hbands (by rw [hcount]; omega)

end Frame

end Sys2Proof.Proofs
end

section
/-! SUPPORT. Each operation on the state keeps the invariant. -/

namespace Sys2Proof.Proofs

open Sys2Proof.Machine Sys2Proof.Safety

/-! ### The words of the result registers and of `STATUS` -/

theorem getLsbD_or_mask {w : Word} (h : ∀ k, 5 ≤ k → w.getLsbD k = false) (f : Flag) (k : Nat) (hk : 5 ≤ k) :
    (w ||| f.mask).getLsbD k = false := by
  rw [BitVec.getLsbD_or, h k hk, mask_reserved f k hk, Bool.or_self]

theorem getLsbD_and_not_mask {w : Word} (h : ∀ k, 5 ≤ k → w.getLsbD k = false) (f : Flag) (k : Nat) (hk : 5 ≤ k) :
    (w &&& ~~~f.mask).getLsbD k = false := by
  rw [BitVec.getLsbD_and, h k hk, Bool.false_and]

theorem resultWord_legal {e : ResultCode} (h : e ≠ .deviceError) :
    e.resultWord.toNat ≤ 7 ∧ e.resultWord.toNat ≠ 4 := by
  rw [resultWord_toNat]
  cases e <;> simp_all [ResultCode.number]

/-- The bit that a failure sets in `ERRLOG` is that of its own code. -/
theorem getLsbD_logMask {e : ResultCode} {k : Nat} (h : e.logMask.getLsbD k = true) : k = e.number := by
  have hmask : e.logMask = BitVec.twoPow 32 e.number := by cases e <;> rfl
  rw [hmask, BitVec.getLsbD_twoPow, Bool.and_eq_true, decide_eq_true_eq, decide_eq_true_eq] at h
  exact h.2.symm

/-- `ERRLOG` after a failure other than `DeviceError` (rules R36, R199). -/
theorem getLsbD_or_logMask {w : Word} (h : ∀ k, w.getLsbD k = true → 1 ≤ k ∧ k ≤ 7 ∧ k ≠ 4) {e : ResultCode}
    (hok : e ≠ .ok) (hdev : e ≠ .deviceError) (k : Nat) (hk : (w ||| e.logMask).getLsbD k = true) :
    1 ≤ k ∧ k ≤ 7 ∧ k ≠ 4 := by
  rw [BitVec.getLsbD_or, Bool.or_eq_true] at hk
  rcases hk with hk | hk
  · exact h k hk
  · rw [getLsbD_logMask hk]
    cases e <;> simp_all [ResultCode.number]

/-! ### The operations -/

section Operations

variable {s : State}

/-- Any flag but the two mode bits may be set. -/
theorem registersLegal_setFlag (h : RegistersLegal s) {f : Flag} (hc : f ≠ .cfgValid) (hh : f ≠ .halted) :
    RegistersLegal (s.setFlag f) :=
  { h with
    statusReserved := getLsbD_or_mask h.statusReserved f
    oneMode := by simpa [hc, hh] using h.oneMode }

theorem registersLegal_clearFlag (h : RegistersLegal s) (f : Flag) : RegistersLegal (s.clearFlag f) :=
  { h with
    statusReserved := getLsbD_and_not_mask h.statusReserved f
    oneMode := fun hc => by
      rw [flag_clearFlag, Bool.and_eq_true] at hc
      rw [flag_clearFlag, h.oneMode hc.2, Bool.and_false] }

/-- The template is written again with what the flag promises of it (rules R40, R169). -/
theorem inv_writeTpl (h : Inv s) (hc : s.flag .cfgValid = true)
    (hfits : fits s.geo.lPreamble s.caps.samples = true) : Inv (s.writeTpl (chirp Config.num s.cfg s.geo)) where
  registers := { registersLegal_setFlag h.registers (f := .tplValid) (by decide) (by decide) with }
  geometry := { unconfigured := by simp [hc], configured := by simpa using h.geometry.configured }
  data :=
    { template := by simp
      vector := by simpa using h.data.vector
      synchronised := by
        have htpl := h.data.template
        have hsync := h.data.synchronised
        by_cases hs : s.flag .synced = true
        · rw [if_pos hs] at hsync
          obtain ⟨hvalid, hdetect, hstart⟩ := hsync
          rw [if_pos hvalid] at htpl
          simp [hs, ← htpl, hdetect, hstart]
        · simpa [hs] using hsync }
  capacities := { h.capacities with tpl := by simpa using hfits }

theorem inv_writeSv (h : Inv s) (hc : s.flag .cfgValid = true) {v : BandVector} (hv : v.length = s.cfg.bandCount) :
    Inv (s.writeSv v) where
  registers := { registersLegal_setFlag h.registers (f := .svValid) (by decide) (by decide) with }
  geometry := { unconfigured := by simp [hc], configured := by simpa [hv] using fun _ => (h.geometry.configured hc).1 }
  data :=
    { template := by simpa using h.data.template
      vector := by simp
      synchronised := by simpa using h.data.synchronised }
  capacities := { h.capacities with }

theorem inv_invalidateSv (h : Inv s) : Inv s.invalidateSv where
  registers := { registersLegal_clearFlag h.registers .svValid with }
  geometry :=
    { unconfigured := by simpa using fun hc => by simp [h.geometry.unconfigured hc]
      configured := by simpa using h.geometry.configured }
  data :=
    { template := by simpa using h.data.template
      vector := by simp
      synchronised := by simpa using h.data.synchronised }
  capacities := { h.capacities with }

theorem inv_setSync (h : Inv s) (hc : s.flag .cfgValid = true) (ht : s.flag .tplValid = true) {k : Nat} {p : Rat}
    (hd : detect s.rxs s.tpl s.cfg.syncThreshold = .ok (k, p)) :
    Inv (s.setSync k p (k + s.geo.lPreamble + s.geo.gGuard)) where
  registers := { registersLegal_setFlag h.registers (f := .synced) (by decide) (by decide) with }
  geometry := { unconfigured := by simp [hc], configured := by simpa using h.geometry.configured }
  data :=
    { template := by simpa using h.data.template
      vector := by simpa using h.data.vector
      synchronised := by simp [ht, hd] }
  capacities := { h.capacities with }

theorem inv_clearSync (h : Inv s) : Inv s.clearSync where
  registers := { registersLegal_clearFlag h.registers .synced with }
  geometry :=
    { unconfigured := by simpa using fun hc => by simp [h.geometry.unconfigured hc]
      configured := by simpa using h.geometry.configured }
  data :=
    { template := by simpa using h.data.template
      vector := by simpa using h.data.vector
      synchronised := by simp }
  capacities := { h.capacities with }

/-- While not synchronised, any capture that fits may stand in `RXS` (rule R41). -/
theorem inv_rxs (h : Inv s) (hs : s.flag .synced = false) {x : List Sample}
    (hx : fits x.length s.caps.samples = true) : Inv { s with rxs := x } := by
  have hflag : State.flag { s with rxs := x } .synced = false := hs
  exact
    { registers := { h.registers with }
      geometry := { h.geometry with }
      data := { h.data with synchronised := by simpa [hs, hflag] using h.data.synchronised }
      capacities := { h.capacities with rxs := hx } }

/-- The invariant says nothing of `ARG0`, `ERRINFO`, `CMD` and the host's moves and answers. -/
theorem inv_bookkeeping (h : Inv s) (a : Nat) (ei cmd : Word) (p : List HostMove) (ans : Option HostAnswer) :
    Inv { s with arg0 := a, errinfo := ei, cmd := cmd, pending := p, answer := ans } :=
  ⟨{ h.registers with }, { h.geometry with }, { h.data with }, { h.capacities with }⟩

/-- A failure that does not halt the block records a code that the block may record (rules R199, R205). -/
theorem inv_raiseAt (h : Inv s) {e : ResultCode} {info : BitVec 8} {i : Nat}
    (he : e ∉ [.ok, .configError, .deviceError] := by decide) : Inv (raiseAt e info i s) := by
  simp only [List.mem_cons, List.not_mem_nil, or_false, not_or] at he
  obtain ⟨hok, hconfig, hdevice⟩ := he
  rw [raiseAt, if_neg hconfig]
  exact ⟨{ h.registers with
    resultCode := resultWord_legal hdevice
    errlogReserved := getLsbD_or_logMask h.registers.errlogReserved hok hdevice },
    { h.geometry with }, { h.data with }, { h.capacities with }⟩

/-- Only `DERIVE` before configuration halts the block, so the two mode bits are never both set (rules R96, R212). -/
theorem inv_raiseErr_configError (h : Inv s) (hc : s.flag .cfgValid = false) (info : BitVec 8) :
    Inv (raiseErr .configError info s) where
  registers :=
    { statusReserved := getLsbD_or_mask h.registers.statusReserved .halted
      oneMode := by simp [raiseErr, flag_raiseAt, hc]
      resultCode := resultWord_legal (by decide)
      errlogReserved := getLsbD_or_logMask h.registers.errlogReserved (by decide) (by decide) }
  geometry :=
    { unconfigured := by simpa [raiseErr, flag_raiseAt] using h.geometry.unconfigured
      configured := by simp [raiseErr, flag_raiseAt, hc] }
  data :=
    { template := by simpa [raiseErr, flag_raiseAt] using h.data.template
      vector := by simpa [raiseErr, flag_raiseAt] using h.data.vector
      synchronised := by simpa [raiseErr, flag_raiseAt] using h.data.synchronised }
  capacities := { h.capacities with }

/-- A successful `DERIVE` finds the flags that depend on the geometry clear (rules R31, R93). -/
theorem inv_configure (h : Inv s) (hrun : s.flag .halted = false) (hc : s.flag .cfgValid = false) {g : Geometry}
    (hd : derive s.cfg s.caps.bands = .ok g) :
    Inv (State.setFlag { s with geo := g, sv := List.replicate s.cfg.bandCount none } .cfgValid) := by
  obtain ⟨-, -, htpl, hvector, hsynced⟩ := h.geometry.unconfigured hc
  have hflag (f : Flag) :
      State.flag { s with geo := g, sv := List.replicate s.cfg.bandCount none } f = s.flag f := rfl
  have htemplate := h.data.template
  have hsync := h.data.synchronised
  rw [htpl] at htemplate
  rw [hsynced] at hsync
  exact
    { registers :=
        { h.registers with
          statusReserved := getLsbD_or_mask h.registers.statusReserved .cfgValid
          oneMode := by simp [hflag, hrun] }
      geometry := { unconfigured := by simp, configured := by simp [hd] }
      data :=
        { template := by simpa [hflag, htpl] using htemplate
          vector := by simp [hflag, hvector]
          synchronised := by simpa [hflag, hsynced] using hsync }
      capacities := { h.capacities with } }

/-- Before configuration no data depends on the configuration registers, so any values may stand in them (rule R24). -/
theorem inv_cfg (h : Inv s) (hc : s.flag .cfgValid = false) (c : ConfigRegs) : Inv { s with cfg := c } := by
  obtain ⟨-, -, htpl, -, hsynced⟩ := h.geometry.unconfigured hc
  have hflag (f : Flag) : State.flag { s with cfg := c } f = s.flag f := rfl
  exact
    { registers := { h.registers with }
      geometry := { unconfigured := h.geometry.unconfigured, configured := by simp [hflag, hc] }
      data :=
        { template := by simpa [hflag, htpl] using h.data.template
          vector := h.data.vector
          synchronised := by simpa [hflag, hsynced] using h.data.synchronised }
      capacities := { h.capacities with } }

theorem inv_resetWith (caps : Caps) (pending : List HostMove) (answer : Option HostAnswer) :
    Inv (State.resetWith caps pending answer) := by
  have hflag (f : Flag) : (State.resetWith caps pending answer).flag f = false := by
    simp [State.flag, State.resetWith]
  exact
    { registers :=
        { statusReserved := fun k _ => by simp [State.resetWith]
          oneMode := fun _ => hflag _
          resultCode := by simp [State.resetWith]
          errlogReserved := fun k hk => by simp [State.resetWith] at hk }
      geometry := { unconfigured := fun _ => ⟨rfl, rfl, hflag _, hflag _, hflag _⟩, configured := by simp [hflag] }
      data := { template := by rw [hflag]; rfl, vector := by rw [hflag]; rfl, synchronised := by rw [hflag]; rfl }
      capacities := by constructor <;> exact fits_zero _ }

theorem inv_payload (h : Inv s) {b : List Bit} (hb : fits b.length s.caps.bits = true) :
    Inv { s with payload := b } :=
  ⟨{ h.registers with }, { h.geometry with }, { h.data with }, { h.capacities with payload := hb }⟩

theorem inv_fbits (h : Inv s) {b : List Bit} (hb : fits b.length s.caps.bits = true) : Inv { s with fbits := b } :=
  ⟨{ h.registers with }, { h.geometry with }, { h.data with }, { h.capacities with fbits := hb }⟩

theorem inv_syms (h : Inv s) {x : List Nat} (hx : fits x.length s.caps.syms = true) : Inv { s with syms := x } :=
  ⟨{ h.registers with }, { h.geometry with }, { h.data with }, { h.capacities with syms := hx }⟩

theorem inv_txs (h : Inv s) {x : List Sample} (hx : fits x.length s.caps.samples = true) : Inv { s with txs := x } :=
  ⟨{ h.registers with }, { h.geometry with }, { h.data with }, { h.capacities with txs := hx }⟩

theorem inv_writeFrame (h : Inv s) {x : List Nat} {f p : List Bit} (hx : fits x.length s.caps.syms = true)
    (hf : fits f.length s.caps.bits = true) (hp : fits p.length s.caps.bits = true) : Inv (s.writeFrame x f p) :=
  inv_payload (inv_fbits (inv_syms h hx) hf) hp

theorem inv_writeFrame_nil (h : Inv s) : Inv (s.writeFrame [] [] []) :=
  inv_writeFrame h (fits_zero _) (fits_zero _) (fits_zero _)

theorem inv_succeed (h : Inv s) : Inv (succeed s) :=
  ⟨{ h.registers with resultCode := resultWord_legal (by decide) }, { h.geometry with }, { h.data with },
    { h.capacities with }⟩

theorem inv_clearErrors (h : Inv s) : Inv { s with errlog := 0, errinfo := 0 } :=
  ⟨{ h.registers with errlogReserved := fun k hk => by simp at hk }, { h.geometry with }, { h.data with },
    { h.capacities with }⟩

theorem inv_writeLastSv (h : Inv s) (hc : s.flag .cfgValid = true) {v : Option BandVector}
    (hv : ∀ u, v = some u → u.length = s.cfg.bandCount) : Inv (s.writeLastSv v) := by
  cases v with
  | none => exact h
  | some u => exact inv_writeSv h hc (hv u rfl)

end Operations

end Sys2Proof.Proofs
end

section
/-! SUPPORT. Every command, every host move and so every step keeps the invariant. -/

namespace Sys2Proof.Proofs

open Sys2Proof.Machine Sys2Proof.Safety

section Answers

variable {s : State}

/-- The next state of the answer, if it has one, meets the invariant. -/
def KeepsInv (a : Answer) : Prop := ∀ t, a = .next t → Inv t

theorem keepsInv_next (h : Inv s) : KeepsInv (.next s) := by
  rintro t ⟨⟩
  exact h

theorem keepsInv_unlessHalted (h : Inv s) {body : State} (hbody : s.flag .halted = false → Inv body) :
    KeepsInv (unlessHalted s body) := by
  rw [unlessHalted_eq]
  split_ifs with hhalted
  · exact keepsInv_next h
  · exact keepsInv_next (hbody (by simpa using hhalted))

theorem keepsInv_configured (h : Inv s) {body : State} (hbody : s.flag .cfgValid = true → Inv body) :
    KeepsInv (configured s body) :=
  keepsInv_unlessHalted h fun _ => by
    split_ifs with hc
    · exact hbody hc
    · exact inv_raiseAt h

/-! ### Commands -/

/-- A window has a sample (rule R29), so the number of windows in a capture is bounded (rule R189). -/
theorem nSymbol_pos (h : Inv s) (hc : s.flag .cfgValid = true) : 0 < s.geo.nSymbol := by
  obtain ⟨hderive, -⟩ := h.geometry.configured hc
  obtain ⟨-, -, -, -, -, -, hN, -⟩ := derivedGeometryMeetsTheInvariants _ _ _ hderive
  exact hN

theorem keepsInv_nop (h : Inv s) : KeepsInv (execNop s) := keepsInv_unlessHalted h fun _ => inv_succeed h

theorem keepsInv_clrerr (h : Inv s) : KeepsInv (execClrerr s) :=
  keepsInv_unlessHalted h fun _ => inv_succeed (inv_clearErrors h)

theorem keepsInv_derive (h : Inv s) : KeepsInv (execDerive s) := by
  refine keepsInv_unlessHalted h fun hrun => ?_
  split_ifs with hc
  · exact inv_raiseAt h
  · have hc' : s.flag .cfgValid = false := by simpa using hc
    split
    next g hd => exact inv_succeed (inv_configure h hrun hc' hd)
    next e _ => exact inv_raiseErr_configError h hc' _

theorem keepsInv_frame (h : Inv s) : KeepsInv (execFrame s) := by
  refine keepsInv_configured h fun _ => ?_
  split_ifs with hlen hcap
  · exact inv_raiseAt h
  · exact inv_raiseAt h
  · exact inv_succeed (inv_fbits h (by simpa using hcap))

theorem keepsInv_pack (h : Inv s) : KeepsInv (execPack s) := by
  refine keepsInv_configured h fun _ => ?_
  split_ifs with hcap
  · exact inv_raiseAt h
  · exact inv_succeed (inv_syms h (by simpa using hcap))

theorem keepsInv_unpack (h : Inv s) : KeepsInv (execUnpack s) := by
  refine keepsInv_configured h fun _ => ?_
  split
  · exact inv_raiseAt h
  · split_ifs with hcap hshort
    · exact inv_raiseAt h
    · exact inv_raiseAt (inv_fbits (b := []) h (fits_zero _))
    · have hfits : fits s.arg0 s.caps.bits = true := by simpa using hcap
      exact inv_succeed (inv_fbits h (fits_of_le hfits (length_unpack_le _ _ _).1))

theorem keepsInv_deframe (h : Inv s) : KeepsInv (execDeframe s) := by
  refine keepsInv_configured h fun _ => ?_
  split
  next p hp => exact inv_succeed (inv_payload h (fits_of_le h.capacities.fbits (length_of_parseFrame hp)))
  next e _ => exact inv_raiseAt (inv_payload (b := []) h (fits_zero _))

theorem keepsInv_map (h : Inv s) (i : Nat) : KeepsInv (execMap i s) := by
  refine keepsInv_configured h fun hc => ?_
  split
  · exact inv_raiseAt h
  · split_ifs
    · exact inv_raiseAt h
    · exact inv_succeed (inv_writeSv h hc (length_toStates _ _ _))

theorem keepsInv_unmap (h : Inv s) : KeepsInv (execUnmap s) := by
  refine keepsInv_configured h fun _ => ?_
  split
  · exact inv_raiseAt h
  · split
    · exact inv_raiseAt h
    · split_ifs with hcap halphabet
      · exact inv_raiseAt h
      · exact inv_raiseAt h
      · exact inv_succeed (inv_syms h (by simpa using hcap))

theorem keepsInv_mod (h : Inv s) : KeepsInv (execMod s) := by
  refine keepsInv_configured h fun _ => ?_
  split
  · exact inv_raiseAt h
  · split
    · exact inv_raiseAt h
    · split_ifs with hcap
      · exact inv_raiseAt h
      · exact inv_succeed (inv_txs h (by simpa using hcap))

theorem keepsInv_demod (h : Inv s) (i : Nat) : KeepsInv (execDemod i s) := by
  refine keepsInv_configured h fun hc => ?_
  split_ifs
  · exact inv_raiseAt h
  · exact inv_raiseAt h
  · split
    next v hv => exact inv_succeed (inv_writeSv h hc (length_of_demodulate hv))
    next e _ => exact inv_raiseAt (inv_invalidateSv h)

theorem keepsInv_chirp (h : Inv s) : KeepsInv (execChirp s) := by
  refine keepsInv_configured h fun hc => ?_
  split_ifs with hcap
  · exact inv_raiseAt h
  · exact inv_succeed (inv_writeTpl h hc (by simpa using hcap))

theorem keepsInv_txpre (h : Inv s) : KeepsInv (execTxpre s) := by
  refine keepsInv_configured h fun hc => ?_
  split_ifs with htpl hcap
  · exact inv_raiseAt h
  · exact inv_raiseAt h
  · have hvalid : s.flag .tplValid = true := by simpa using htpl
    have htemplate := h.data.template
    rw [if_pos hvalid] at htemplate
    exact inv_succeed (inv_txs h (by simpa [htemplate] using hcap))

theorem keepsInv_detect (h : Inv s) : KeepsInv (execDetect s) := by
  refine keepsInv_configured h fun hc => ?_
  split_ifs with htpl
  · exact inv_raiseAt h
  · split
    next p hp => exact inv_succeed (inv_setSync h hc (by simpa using htpl) hp)
    next e _ => exact inv_raiseAt (inv_clearSync h)

/-- The capacity checks of `TXFRAME` are those of all it writes (rule R186). -/
theorem keepsInv_txframe (h : Inv s) : KeepsInv (execTxframe s) := by
  refine keepsInv_configured h fun hc => ?_
  simp only
  split_ifs with hlen hcap
  · exact inv_raiseAt h
  · exact inv_raiseAt h
  · simp only [not_or, Bool.not_eq_false] at hcap
    obtain ⟨hbits, hsyms, hsamples⟩ := hcap
    have hfbits := inv_fbits (b := frameBits s.payload s.cfg.lengthFieldBits) h (by simpa using hbits)
    have hframe := inv_syms (x := frameSymbols s.cfg s.geo s.payload) hfbits (by simpa [frameSymbols] using hsyms)
    have htxs := inv_txs (x := txWaveform Config.num s.cfg s.geo s.payload) hframe
      (by simpa [txWaveform, length_dataRegion, frameSymbols, Nat.add_assoc] using hsamples)
    have htpl := inv_writeTpl htxs hc (fits_of_le hsamples (by simp only; omega))
    refine inv_succeed (inv_writeLastSv htpl (by rw [flag_writeTpl]; exact hc) fun u hu => ?_)
    obtain ⟨x, -, rfl⟩ := Option.map_eq_some_iff.1 hu
    exact length_toStates _ _ _

/-- The windows of a frame are inside the capture, so the capacity checks of `RXFRAME` are those of all it writes (rule
R189). -/
theorem keepsInv_rxframe (h : Inv s) : KeepsInv (execRxframe s) := by
  refine keepsInv_configured h fun hc => ?_
  simp only
  split_ifs with hcap
  · exact inv_raiseAt h
  · simp only [not_or, Bool.not_eq_false] at hcap
    obtain ⟨hsamples, hsyms, hbits⟩ := hcap
    have htpl := inv_writeTpl h hc hsamples
    rcases rxFrame_cases Config.num s.cfg s.geo s.rxs with ⟨e, he⟩ | ⟨p, hp, hframe⟩
    · rw [he]
      exact inv_raiseAt (inv_writeFrame_nil (inv_clearSync htpl))
    · have hsync := inv_setSync htpl (by simpa using hc) (by simp) hp
      rcases hframe with ⟨cause, index, hfail⟩ | ⟨vs, n, hbands, hinside, hok⟩
      · rw [hfail]
        exact inv_raiseAt (inv_invalidateSv (inv_writeFrame_nil hsync))
      · rw [hok]
        have hcount : vs.length ≤ s.rxs.length / s.geo.nSymbol :=
          (Nat.le_div_iff_mul_le (nSymbol_pos h hc)).2 hinside
        have hfbits := (length_unpack_le (vs.map (fromStates s.geo.statesPerBand)) s.geo.bitsPerSymbol
          (s.cfg.lengthFieldBits + n)).2.trans (Nat.mul_le_mul_right _ (by simpa using hcount))
        exact inv_succeed (inv_writeLastSv
          (inv_writeFrame hsync (fits_of_le hsyms (by simpa using hcount)) (fits_of_le hbits hfbits)
            (fits_of_le hbits ((length_slice_le _ _ _).trans hfbits)))
          (by simpa using hc) fun u hu => hbands u (List.mem_of_getLast? hu))

theorem exec_keepsInv (h : Inv s) (i : Instr) : KeepsInv (exec i s) :=
  match i with
  | .nop => keepsInv_nop h
  | .derive => keepsInv_derive h
  | .clrerr => keepsInv_clrerr h
  | .frame => keepsInv_frame h
  | .pack => keepsInv_pack h
  | .unpack => keepsInv_unpack h
  | .deframe => keepsInv_deframe h
  | .map k => keepsInv_map h k
  | .unmap => keepsInv_unmap h
  | .mod => keepsInv_mod h
  | .demod k => keepsInv_demod h k
  | .chirp => keepsInv_chirp h
  | .txpre => keepsInv_txpre h
  | .detect => keepsInv_detect h
  | .txframe => keepsInv_txframe h
  | .rxframe => keepsInv_rxframe h

/-! ### Host moves -/

theorem inv_writeReg (h : Inv s) (no : Nat) (v : Rat) : Inv (s.writeReg no v) := by
  unfold State.writeReg
  split_ifs with hhalted hno hc
  · exact h
  · exact inv_bookkeeping h _ _ _ _ _
  · exact h
  · exact inv_cfg h (by simpa using hc) _

theorem inv_loadBuffer (h : Inv s) (buf : Buffer) (d : BufData) : Inv (s.loadBuffer buf d) := by
  fun_cases State.loadBuffer s buf d with
  | case1 b hfits => exact inv_payload h hfits
  | case3 b hfits => exact inv_fbits h hfits
  | case5 x hfits => exact inv_syms h hfits
  | case7 x hfits => exact inv_txs h hfits
  | case9 x hfits => exact inv_rxs (inv_clearSync h) (by simp) hfits
  | case2 | case4 | case6 | case8 | case10 | case11 => exact h

theorem inv_hostWriteSv (h : Inv s) (v : BandVector) : Inv (hostWriteSv v s) := by
  unfold hostWriteSv
  split_ifs with hv
  · obtain ⟨-, hc, hlen⟩ := hv
    exact inv_writeSv h hc hlen
  · exact h

theorem inv_hostLoad (h : Inv s) (buf : Buffer) (d : BufData) : Inv (hostLoad buf d s) := by
  unfold hostLoad
  split_ifs
  · exact h
  · exact inv_loadBuffer h buf d

theorem keepsInv_rejectWord (h : Inv s) (info : BitVec 8) : KeepsInv (rejectWord info s) :=
  keepsInv_unlessHalted h fun _ => inv_raiseAt h

theorem keepsInv_issueWord (h : Inv s) (c : Word) : KeepsInv (issueWord c s) := by
  have hcmd := inv_bookkeeping h s.arg0 s.errinfo c s.pending s.answer
  unfold issueWord
  split_ifs
  · exact keepsInv_next h
  · split
    · exact exec_keepsInv hcmd _
    · exact keepsInv_rejectWord hcmd 1
    · exact keepsInv_rejectWord hcmd 2

theorem keepsInv_hostWriteReg (h : Inv s) (no : Nat) (v : Rat) : KeepsInv (hostWriteReg no v s) := by
  unfold hostWriteReg
  split_ifs
  · split
    · exact keepsInv_issueWord h _
    · exact keepsInv_next h
  · exact keepsInv_next (inv_writeReg h no v)

theorem keepsInv_hostMove (h : Inv s) (m : HostMove) : KeepsInv (hostMove m s) :=
  match m with
  | .writeReg no v => keepsInv_hostWriteReg h no v
  | .writeSv v => keepsInv_next (inv_hostWriteSv h v)
  | .load buf d => keepsInv_next (inv_hostLoad h buf d)
  | .issue c => keepsInv_issueWord h c
  | .reset => keepsInv_next (inv_resetWith _ _ _)
  | .readReg _ | .readSv | .read _ => keepsInv_next (inv_bookkeeping h s.arg0 s.errinfo s.cmd s.pending _)

end Answers

/-- Settles O10: each operation on the state keeps the invariant, so each command and each host move, built from them,
does. -/
theorem everyStepKeepsTheInvariant : Obligations.EveryStepKeepsTheInvariant := by
  intro s t h hstep
  cases hp : s.pending with
  | nil =>
    rw [step, nextMove, hp] at hstep
    exact keepsInv_next h t hstep
  | cons m rest =>
    rw [step_of_pending hp] at hstep
    exact keepsInv_hostMove (inv_bookkeeping h s.arg0 s.errinfo s.cmd rest s.answer) m t hstep

end Sys2Proof.Proofs
end

section
/-! SUPPORT. Reset, the host's reads, a new capture and the host's vector (rules R32, R41, R43, R63). -/

namespace Sys2Proof.Proofs

open Sys2Proof.Machine Sys2Proof.Safety

/-- Settles O8: the state after `HostReset` is the reset state, whatever the state before. -/
theorem hostResetRestoresResetValues : Obligations.HostResetRestoresResetValues := by
  intro s rest hp
  refine ⟨State.resetWith s.caps rest s.answer, step_of_pending hp, ?_⟩
  simp [State.resetWith]

/-- Settles O9: the reset state has empty data and clear flags for any capacities, so for those of `State.reset`. -/
theorem invariantHoldsAtReset : Obligations.InvariantHoldsAtReset :=
  ⟨inv_resetWith, inv_resetWith _ _ _⟩

/-- Settles O56: the register map row by row, and the three read moves by what a step does with a move. -/
theorem hostReadsChangeNothing : Obligations.HostReadsChangeNothing :=
  fun _ _ => ⟨rfl, rfl, rfl, fun _ hp => step_of_pending hp, fun _ hp => step_of_pending hp, step_of_pending⟩

/-- A capture that fits replaces `RXS` and clears the synchronisation (rule R41). -/
theorem loadBuffer_rxs {s : State} {x : List Sample} (h : fits x.length s.caps.samples = true) :
    s.loadBuffer .rxs (.samples x) = State.clearSync { s with rxs := x } := by
  rw [State.loadBuffer, if_pos h]

/-- Settles O58: the load of a capture that fits, its cleared flag as the bit of `STATUS`. -/
theorem newCaptureClearsTheSynchronisation : Obligations.NewCaptureClearsTheSynchronisation := by
  intro s x rest hp hrun hfits
  rw [step_load hp hrun]
  exact congrArg _ (loadBuffer_rxs (s := { s with pending := rest }) hfits)

/-- Settles O59: the one condition under which the vector is taken, met or not. -/
theorem hostWritesTheWholeVector : Obligations.HostWritesTheWholeVector := by
  intro s v rest hp hrun
  have hrun' : State.flag { s with pending := rest } .halted = false := hrun
  rw [step_of_pending hp, hostMove, hostWriteSv]
  refine ⟨fun hc hlen => ?_, fun hno => ?_⟩
  · rw [if_pos ⟨hrun', hc, hlen⟩]
    rfl
  · rw [if_neg]
    rintro ⟨-, hc, hlen⟩
    exact hno.elim (fun hu => Bool.false_ne_true (hu.symm.trans hc)) fun hne => hne hlen

end Sys2Proof.Proofs
end

section
/-! SUPPORT. `DERIVE` on a feasible configuration (rules R28, R92, R93). -/

namespace Sys2Proof.Proofs

open Sys2Proof.Machine Sys2Proof.Safety

/-- The samples of a duration as the natural part of the rounded product (rule R28). -/
theorem sampleCount_eq_toNat (a b : Rat) : sampleCount a b = (roundHE (a * b)).toNat := by
  rw [sampleCount]
  omega

theorem sampleCount_ne_zero {a b : Rat} (h : 1 ≤ roundHE (a * b)) : sampleCount a b ≠ 0 := by
  rw [sampleCount_eq_toNat]
  omega

/-- In mode UNCONFIGURED, a configuration that `derive` accepts is configured. -/
theorem execDerive_of_derive {s : State} (hrun : s.flag .halted = false) (hc : s.flag .cfgValid = false) {g : Geometry}
    (hd : derive s.cfg s.caps.bands = .ok g) :
    execDerive s =
      .next (succeed (State.setFlag { s with geo := g, sv := List.replicate s.cfg.bandCount none } .cfgValid)) := by
  rw [execDerive, unlessHalted_of_running hrun, hc, if_neg Bool.false_ne_true, hd]

/-- Settles O23: the checks are those of `derive`, and the counts of N and L are the rounded products. -/
theorem deriveWritesTheGeometry : Obligations.DeriveWritesTheGeometry := by
  intro s hrun hc c S hrate hsymbol hbands hstep hpre hN hL hresolution hS hcap
  have hd : derive s.cfg s.caps.bands = .ok s.cfg.geometry :=
    (derive_eq_ok _ _ _).2 ⟨⟨hrate, hsymbol, hbands.ne', hstep, hpre⟩,
      ⟨sampleCount_ne_zero hN, sampleCount_ne_zero hL⟩, hresolution, hS, hcap, rfl⟩
  rw [exec, execDerive_of_derive hrun hc hd, ConfigRegs.geometry, sampleCount_eq_toNat _ s.cfg.symbolDuration,
    sampleCount_eq_toNat _ s.cfg.preDuration]
  rfl

end Sys2Proof.Proofs
end

section
/-! SUPPORT. The host's register writes (rules R21 to R26, R63). -/

namespace Sys2Proof.Proofs

open Sys2Proof.Machine Sys2Proof.Safety

/-! ### The configuration registers as a list -/

/-- The values of registers 0 to 11, in the order of their numbers (rule R22). -/
def configValues (c : ConfigRegs) : List Rat :=
  [c.sampleRate, c.symbolDuration, c.bandLow, c.bandHigh, c.bandCount, c.step, c.preDuration, c.preStartFreq,
    c.preEndFreq, c.guardDuration, c.lengthFieldBits, c.syncThreshold]

theorem readReg_of_lt (s : State) {m : Nat} (h : m < 12) : s.readReg m = (configValues s.cfg).getD m 0 := by
  interval_cases m <;> rfl

/-- Registers 12 and above are not of the configuration. -/
theorem readReg_cfg_of_ge (s : State) (c : ConfigRegs) {m : Nat} (h : 12 ≤ m) :
    State.readReg { s with cfg := c } m = s.readReg m := by
  unfold State.readReg
  split
  case h_1 | h_2 | h_3 | h_4 | h_5 | h_6 | h_7 | h_8 | h_9 | h_10 | h_11 | h_12 => omega
  all_goals rfl

theorem readReg_arg0_of_ne (s : State) (a : Nat) {m : Nat} (h : m ≠ 12) :
    State.readReg { s with arg0 := a } m = s.readReg m := by
  unfold State.readReg
  split
  case h_13 => exact absurd rfl h
  all_goals rfl

/-- The domain of a register that a host may write: ℕ for 4, 10 and 12 (rules R22, R26). -/
def InDomain (no : Nat) (v : Rat) : Prop := no ∈ [4, 10, 12] → ∃ n : Nat, v = (n : Rat)

theorem natOf_of_not_inDomain {no : Nat} {v : Rat} (h : ¬InDomain no v) : natOf v = none := by
  rw [Option.eq_none_iff_forall_ne_some]
  exact fun n hn => h fun _ => ⟨n, (natOf_eq_some v n).1 hn⟩

theorem write_of_not_inDomain (c : ConfigRegs) {no : Nat} {v : Rat} (h : ¬InDomain no v) : c.write no v = c := by
  have hnone := natOf_of_not_inDomain h
  simp only [InDomain, Classical.not_imp, List.mem_cons, List.not_mem_nil, or_false] at h
  obtain ⟨rfl | rfl | rfl, -⟩ := h <;> simp [ConfigRegs.write, hnone]

theorem write_of_ge (c : ConfigRegs) {no : Nat} (v : Rat) (h : 12 ≤ no) : c.write no v = c := by
  fun_cases ConfigRegs.write c no v with
  | case13 => rfl
  | _ => omega

/-- A value in the domain replaces the value of its number and no other. -/
theorem configValues_write (c : ConfigRegs) {no : Nat} {v : Rat} (h : InDomain no v) :
    configValues (c.write no v) = (configValues c).set no v := by
  rcases Nat.lt_or_ge no 12 with hlt | hge
  · fun_cases ConfigRegs.write c no v with
    | case5 | case11 =>
      obtain ⟨n, rfl⟩ := h (by decide)
      simp [configValues]
    | case13 =>
      simp only [imp_false] at *
      omega
    | _ => rfl
  · rw [write_of_ge c v hge, List.set_eq_of_length_le hge]

/-! ### `HostWriteReg` -/

/-- A host write of register `no` is performed (rules R21, R22, R24, R26). -/
def Writable (s : State) (no : Nat) (v : Rat) : Prop :=
  s.flag .halted = false ∧ (no = 12 ∨ no < 12 ∧ s.flag .cfgValid = false) ∧ InDomain no v

theorem writeReg_of_not_writable {s : State} {no : Nat} {v : Rat} (h : ¬Writable s no v) : s.writeReg no v = s := by
  by_cases hv : InDomain no v
  · unfold State.writeReg
    split_ifs with hrun hno hc
    · rfl
    · exact absurd ⟨by simpa using hrun, .inl hno, hv⟩ h
    · rfl
    · have hge : ¬no < 12 := fun hlt => h ⟨by simpa using hrun, .inr ⟨hlt, by simpa using hc⟩, hv⟩
      rw [write_of_ge _ _ (not_lt.1 hge)]
  · simp [State.writeReg, natOf_of_not_inDomain hv, write_of_not_inDomain _ hv]

theorem readReg_writeReg {s : State} {no : Nat} {v : Rat} (h : Writable s no v) (m : Nat) :
    (s.writeReg no v).readReg m = if no = m then v else s.readReg m := by
  obtain ⟨hrun, rfl | ⟨hlt, hc⟩, hv⟩ := h
  · obtain ⟨n, rfl⟩ := hv (by decide)
    rw [State.writeReg, hrun, if_neg Bool.false_ne_true, if_pos rfl, natOf_natCast]
    split_ifs with hm
    · subst hm
      rfl
    · exact readReg_arg0_of_ne s n (Ne.symm hm)
  · rw [State.writeReg, hrun, hc, if_neg Bool.false_ne_true, if_neg (by omega), if_neg Bool.false_ne_true]
    rcases Nat.lt_or_ge m 12 with hm | hm
    · have hlen : no < (configValues s.cfg).length := hlt
      rw [readReg_of_lt _ hm, readReg_of_lt _ hm, configValues_write _ hv, List.getD_eq_getElem?_getD,
        List.getElem?_set]
      split_ifs <;> rfl
    · rw [if_neg (by omega), readReg_cfg_of_ge s _ hm]

/-- A register write touches the configuration registers and `ARG0` alone. -/
theorem writeReg_eq (s : State) (no : Nat) (v : Rat) :
    s.writeReg no v = { s with cfg := (s.writeReg no v).cfg, arg0 := (s.writeReg no v).arg0 } := by
  unfold State.writeReg
  split_ifs <;> rfl

/-- Settles O54: the two cases of a write, performed or ignored. -/
theorem hostWritesObeyTheRegisterClass : Obligations.HostWritesObeyTheRegisterClass := by
  intro s no v rest hp hno allowed
  have hstep : step s = .next (State.writeReg { s with pending := rest } no v) := by
    rw [step_of_pending hp, hostMove, hostWriteReg, if_neg hno]
  refine ⟨_, hstep, writeReg_eq { s with pending := rest } no v, ?_⟩
  by_cases h : Writable { s with pending := rest } no v
  · have hw := readReg_writeReg h
    exact ⟨fun m hm => (hw m).trans (if_neg hm.symm), fun _ => (hw no).trans (if_pos rfl), fun hn => absurd h hn⟩
  · rw [writeReg_of_not_writable h]
    exact ⟨fun m _ => rfl, fun ha => absurd ha h, fun _ => rfl⟩

end Sys2Proof.Proofs
end

section
/-! SUPPORT. What a command can do, said once: the state it reaches, by command and result code, and how the result is then
recorded (rules R195, R203, R205). -/

namespace Sys2Proof.Proofs

open Sys2Proof.Machine Sys2Proof.Safety

/-- `Reaches i s e u`: from `s`, in a mode other than HALTED, command `i` can reach `u` and end there with code `e`, the
result not recorded yet. Only the writers' operations are named for a success; a failure's state is exact (rule R203). -/
inductive Reaches : Instr → State → ResultCode → State → Prop
  | refused {i s e} (he : e = .operandError ∨ e = .sequenceError) : Reaches i s e s
  | nop {s} : Reaches .nop s .ok s
  | clrerr {s} : Reaches .clrerr s .ok { s with errlog := 0, errinfo := 0 }
  | derive {s g} (hc : s.flag .cfgValid = false) (hd : derive s.cfg s.caps.bands = .ok g) :
      Reaches .derive s .ok (State.setFlag { s with geo := g, sv := List.replicate s.cfg.bandCount none } .cfgValid)
  | deriveFails {s} (hc : s.flag .cfgValid = false) : Reaches .derive s .configError s
  | frame {s} (b : List Bit) : Reaches .frame s .ok { s with fbits := b }
  | pack {s} (x : List Nat) : Reaches .pack s .ok { s with syms := x }
  | unpack {s} (b : List Bit) : Reaches .unpack s .ok { s with fbits := b }
  | unpackFails {s} : Reaches .unpack s .decodeError { s with fbits := [] }
  | deframe {s} (b : List Bit) : Reaches .deframe s .ok { s with payload := b }
  | deframeFails {s} : Reaches .deframe s .decodeError { s with payload := [] }
  | map {s} (k : Nat) (v : BandVector) : Reaches (.map k) s .ok (s.writeSv v)
  | unmap {s} (x : List Nat) : Reaches .unmap s .ok { s with syms := x }
  | unmapFails {s} : Reaches .unmap s .decodeError s
  | mod {s} (x : List Sample) : Reaches .mod s .ok { s with txs := x }
  | demod {s} (k : Nat) (v : BandVector) : Reaches (.demod k) s .ok (s.writeSv v)
  | demodFails {s} (k : Nat) : Reaches (.demod k) s .decodeError s.invalidateSv
  | chirp {s} (x : List Sample) : Reaches .chirp s .ok (s.writeTpl x)
  | txpre {s} (x : List Sample) : Reaches .txpre s .ok { s with txs := x }
  | detect {s} (k : Nat) (p : Rat) (d : Nat) : Reaches .detect s .ok (s.setSync k p d)
  | detectFails {s} : Reaches .detect s .syncError s.clearSync
  | txframe {s} (b : List Bit) (x : List Nat) (w tpl : List Sample) (v : Option BandVector) :
      Reaches .txframe s .ok ((State.writeTpl { s with fbits := b, syms := x, txs := w } tpl).writeLastSv v)
  | rxframe {s} (tpl : List Sample) (k : Nat) (p : Rat) (d : Nat) (x : List Nat) (f b : List Bit)
      (v : Option BandVector) :
      Reaches .rxframe s .ok ((((s.writeTpl tpl).setSync k p d).writeFrame x f b).writeLastSv v)
  | rxframeUnsynced {s} :
      Reaches .rxframe s .syncError ((s.writeTpl (chirp Config.num s.cfg s.geo)).clearSync.writeFrame [] [] [])
  | rxframeFails {s p} (hp : detect s.rxs (chirp Config.num s.cfg s.geo) s.cfg.syncThreshold = .ok p) :
      Reaches .rxframe s .decodeError
        ((((s.writeTpl (chirp Config.num s.cfg s.geo)).setSync p.1 p.2 (p.1 + s.geo.lPreamble + s.geo.gGuard)).writeFrame
          [] [] []).invalidateSv)

/-- `Ends i s t`: `t` is a state that command `i` reaches from `s`, with the result recorded (rules R195, R205). -/
inductive Ends (i : Instr) (s : State) : State → Prop
  | success {u} (h : Reaches i s .ok u) : Ends i s (succeed u)
  | failure {e u info index} (he : e ≠ .ok) (h : Reaches i s e u) : Ends i s (raiseAt e info index u)

section Commands

variable {s t : State}

theorem Ends.operandError {i : Instr} {info : BitVec 8} {index : Nat} : Ends i s (raiseAt .operandError info index s) :=
  .failure (by decide) (.refused (.inl rfl))

theorem Ends.sequenceError {i : Instr} {info : BitVec 8} {index : Nat} :
    Ends i s (raiseAt .sequenceError info index s) :=
  .failure (by decide) (.refused (.inr rfl))

theorem ends_of_unlessHalted {i : Instr} {body : State} (hrun : s.flag .halted = false) (hbody : Ends i s body)
    (h : unlessHalted s body = .next t) : Ends i s t := by
  rw [unlessHalted_of_running hrun] at h
  cases h
  exact hbody

theorem ends_of_configured {i : Instr} {body : State} (hrun : s.flag .halted = false) (hbody : Ends i s body)
    (h : configured s body = .next t) : Ends i s t := by
  refine ends_of_unlessHalted hrun ?_ h
  split_ifs
  · exact hbody
  · exact .sequenceError

variable (hrun : s.flag .halted = false)
include hrun

theorem ends_derive (h : execDerive s = .next t) : Ends .derive s t := by
  refine ends_of_unlessHalted hrun ?_ h
  split_ifs with hc
  · exact .sequenceError
  · have hc' : s.flag .cfgValid = false := by simpa using hc
    split
    next g hd => exact .success (.derive hc' hd)
    next e _ => exact .failure (by decide) (.deriveFails hc')

theorem ends_frame (h : execFrame s = .next t) : Ends .frame s t := by
  refine ends_of_configured hrun ?_ h
  split_ifs
  · exact .operandError
  · exact .operandError
  · exact .success (.frame _)

theorem ends_pack (h : execPack s = .next t) : Ends .pack s t := by
  refine ends_of_configured hrun ?_ h
  split_ifs
  · exact .operandError
  · exact .success (.pack _)

theorem ends_unpack (h : execUnpack s = .next t) : Ends .unpack s t := by
  refine ends_of_configured hrun ?_ h
  split
  · exact .operandError
  · split_ifs
    · exact .operandError
    · exact .failure (by decide) .unpackFails
    · exact .success (.unpack _)

theorem ends_deframe (h : execDeframe s = .next t) : Ends .deframe s t := by
  refine ends_of_configured hrun ?_ h
  split
  · exact .success (.deframe _)
  · exact .failure (by decide) .deframeFails

theorem ends_map {k : Nat} (h : execMap k s = .next t) : Ends (.map k) s t := by
  refine ends_of_configured hrun ?_ h
  split
  · exact .operandError
  · split_ifs
    · exact .operandError
    · exact .success (.map k _)

theorem ends_unmap (h : execUnmap s = .next t) : Ends .unmap s t := by
  refine ends_of_configured hrun ?_ h
  split
  · exact .sequenceError
  · split
    · exact .operandError
    · split_ifs
      · exact .operandError
      · exact .failure (by decide) .unmapFails
      · exact .success (.unmap _)

theorem ends_mod (h : execMod s = .next t) : Ends .mod s t := by
  refine ends_of_configured hrun ?_ h
  split
  · exact .sequenceError
  · split
    · exact .operandError
    · split_ifs
      · exact .operandError
      · exact .success (.mod _)

theorem ends_demod {k : Nat} (h : execDemod k s = .next t) : Ends (.demod k) s t := by
  refine ends_of_configured hrun ?_ h
  split_ifs
  · exact .sequenceError
  · exact .operandError
  · split
    · exact .success (.demod k _)
    · exact .failure (by decide) (.demodFails k)

theorem ends_chirp (h : execChirp s = .next t) : Ends .chirp s t := by
  refine ends_of_configured hrun ?_ h
  split_ifs
  · exact .operandError
  · exact .success (.chirp _)

theorem ends_txpre (h : execTxpre s = .next t) : Ends .txpre s t := by
  refine ends_of_configured hrun ?_ h
  split_ifs
  · exact .sequenceError
  · exact .operandError
  · exact .success (.txpre _)

theorem ends_detect (h : execDetect s = .next t) : Ends .detect s t := by
  refine ends_of_configured hrun ?_ h
  split_ifs
  · exact .sequenceError
  · split
    · exact .success (.detect _ _ _)
    · exact .failure (by decide) .detectFails

theorem ends_txframe (h : execTxframe s = .next t) : Ends .txframe s t := by
  refine ends_of_configured hrun ?_ h
  simp only
  split_ifs
  · exact .operandError
  · exact .operandError
  · exact .success (.txframe _ _ _ _ _)

theorem ends_rxframe (h : execRxframe s = .next t) : Ends .rxframe s t := by
  refine ends_of_configured hrun ?_ h
  simp only
  split_ifs
  · exact .operandError
  · rcases rxFrame_cases Config.num s.cfg s.geo s.rxs with ⟨e, he⟩ | ⟨p, hp, hframe⟩
    · rw [he]
      exact .failure (by decide) .rxframeUnsynced
    · rcases hframe with ⟨cause, index, hfail⟩ | ⟨vs, n, -, -, hok⟩
      · rw [hfail]
        exact .failure (by decide) (.rxframeFails hp)
      · rw [hok]
        exact .success (.rxframe _ _ _ _ _ _ _ _)

/-- Not HALTED, every command ends as `Ends` lists. -/
theorem ends_of_exec {i : Instr} (h : exec i s = .next t) : Ends i s t :=
  match i, h with
  | .nop, h => ends_of_unlessHalted hrun (.success .nop) h
  | .derive, h => ends_derive hrun h
  | .clrerr, h => ends_of_unlessHalted hrun (.success .clrerr) h
  | .frame, h => ends_frame hrun h
  | .pack, h => ends_pack hrun h
  | .unpack, h => ends_unpack hrun h
  | .deframe, h => ends_deframe hrun h
  | .map _, h => ends_map hrun h
  | .unmap, h => ends_unmap hrun h
  | .mod, h => ends_mod hrun h
  | .demod _, h => ends_demod hrun h
  | .chirp, h => ends_chirp hrun h
  | .txpre, h => ends_txpre hrun h
  | .detect, h => ends_detect hrun h
  | .txframe, h => ends_txframe hrun h
  | .rxframe, h => ends_rxframe hrun h

end Commands

/-- In mode HALTED every command is ignored (rule R204 check 1). -/
theorem exec_of_halted (i : Instr) {s : State} (h : s.flag .halted = true) : exec i s = .next s := by
  cases i with
  | nop | derive | clrerr => exact unlessHalted_of_halted h _
  | _ => exact configured_of_halted h _

end Sys2Proof.Proofs
end

section
/-! SUPPORT. The result of a command and the writers of each piece of state (rules R24, R34 to R38, R199). -/

namespace Sys2Proof.Proofs

open Sys2Proof.Machine Sys2Proof.Safety

/-! ### The result registers -/

theorem resultWord_eq_zero {e : ResultCode} (h : e.resultWord = 0) : e = .ok := resultWord_injective (f := .ok) h

theorem logMask_eq (e : ResultCode) : e.logMask = BitVec.ofNat 32 (2 ^ e.number) := by cases e <;> rfl

/-- `t` is `u` with the end of the command recorded: code e, and `HALTED` for a `ConfigError` (rules R195, R205). -/
def Records (e : ResultCode) (u t : State) : Prop :=
  t = { u with
    result := e.resultWord, errlog := t.errlog, errinfo := t.errinfo
    status := if e = .configError then u.status ||| Flag.halted.mask else u.status }

section Recording

variable {i : Instr} {s t u : State} {e : ResultCode}

theorem Ends.exists_records (h : Ends i s t) : ∃ e u, Reaches i s e u ∧ Records e u t := by
  cases h with
  | success hu => exact ⟨_, _, hu, rfl⟩
  | failure _ hu => exact ⟨_, _, hu, rfl⟩

theorem Records.result_eq (h : Records e u t) : t.result = e.resultWord := congrArg State.result h

theorem Records.flag_eq (h : Records e u t) (f : Flag) :
    t.flag f = (decide (e = .configError ∧ Flag.halted = f) || u.flag f) := by
  have hs : t.status = (raiseAt e 0 0 u).status := (congrArg State.status h).trans rfl
  rw [flag_congr _ _ hs, flag_raiseAt]

/-- "Never by the block" (rule R199). -/
theorem Reaches.ne_deviceError (h : Reaches i s e u) : e ≠ .deviceError := by
  cases h with
  | refused he => rcases he with rfl | rfl <;> decide
  | _ => decide

/-- Until the result is recorded only `CLRERR` changes the error registers (rules R36, R37, R97). -/
theorem Reaches.errors_eq (h : Reaches i s e u) (hi : i = .clrerr → e ≠ .ok) :
    u.errlog = s.errlog ∧ u.errinfo = s.errinfo := by
  cases h with
  | clrerr => exact absurd rfl (hi rfl)
  | _ => simp

end Recording

/-- Settles O13: the code that `Reaches` gives is recorded by `succeed` or `raiseAt`. -/
theorem everyCommandRecordsOneResult : Obligations.EveryCommandRecordsOneResult := by
  intro i s t hrun h
  cases ends_of_exec hrun h with
  | success hu =>
    exact ⟨resultWord_legal (by decide), fun hne => absurd rfl hne, fun _ hi => hu.errors_eq fun hclr => absurd hclr hi⟩
  | failure he hu =>
    obtain ⟨herrlog, -⟩ := hu.errors_eq fun _ => he
    refine ⟨resultWord_legal hu.ne_deviceError, fun _ => ?_, fun hok => absurd (resultWord_eq_zero hok) he⟩
    rw [raiseAt_errlog, raiseAt_result, resultWord_toNat, herrlog, logMask_eq]

/-! ### The writers of each field -/

section Writers

variable {i : Instr} {s u : State} {e : ResultCode}

/-- No command writes the configuration, `ARG0`, `CMD`, `RXS` or the model's own fields. -/
theorem Reaches.inputs_eq (h : Reaches i s e u) :
    u.cfg = s.cfg ∧ u.arg0 = s.arg0 ∧ u.cmd = s.cmd ∧ u.rxs = s.rxs ∧ u.caps = s.caps ∧ u.pending = s.pending ∧
      u.answer = s.answer := by
  cases h <;> simp

/-- The geometry is written before configuration alone (rule R95). -/
theorem Reaches.geo_writer (h : Reaches i s e u) (hne : u.geo ≠ s.geo) : i = .derive ∧ s.flag .cfgValid = false := by
  cases h with
  | derive hc => exact ⟨rfl, hc⟩
  | _ => simp at hne

theorem Reaches.sync_writer (h : Reaches i s e u) (hne : u.sync ≠ s.sync) : i ∈ [Instr.detect, .rxframe] := by
  cases h with
  | detect | detectFails | rxframe | rxframeUnsynced | rxframeFails => decide
  | _ => simp at hne

theorem Reaches.sv_writer (h : Reaches i s e u) (hne : u.sv ≠ s.sv) :
    i ∈ [Instr.derive, .txframe, .rxframe] ∨ ∃ k, i = .map k ∨ i = .demod k := by
  cases h with
  | map k => exact .inr ⟨k, .inl rfl⟩
  | demod k | demodFails k => exact .inr ⟨k, .inr rfl⟩
  | derive | txframe | rxframe | rxframeFails => exact .inl (by decide)
  | _ => simp at hne

theorem Reaches.payload_writer (h : Reaches i s e u) (hne : u.payload ≠ s.payload) :
    i ∈ [Instr.deframe, .rxframe] := by
  cases h with
  | deframe | deframeFails | rxframe | rxframeUnsynced | rxframeFails => decide
  | _ => simp at hne

theorem Reaches.fbits_writer (h : Reaches i s e u) (hne : u.fbits ≠ s.fbits) :
    i ∈ [Instr.frame, .unpack, .txframe, .rxframe] := by
  cases h with
  | frame | unpack | unpackFails | txframe | rxframe | rxframeUnsynced | rxframeFails => decide
  | _ => simp at hne

theorem Reaches.syms_writer (h : Reaches i s e u) (hne : u.syms ≠ s.syms) :
    i ∈ [Instr.pack, .unmap, .txframe, .rxframe] := by
  cases h with
  | pack | unmap | txframe | rxframe | rxframeUnsynced | rxframeFails => decide
  | _ => simp at hne

theorem Reaches.tpl_writer (h : Reaches i s e u) (hne : u.tpl ≠ s.tpl) :
    i ∈ [Instr.chirp, .txframe, .rxframe] := by
  cases h with
  | chirp | txframe | rxframe | rxframeUnsynced | rxframeFails => decide
  | _ => simp at hne

theorem Reaches.txs_writer (h : Reaches i s e u) (hne : u.txs ≠ s.txs) : i ∈ [Instr.txpre, .mod, .txframe] := by
  cases h with
  | txpre | mod | txframe => decide
  | _ => simp at hne

end Writers

/-- Settles O19: the writers of each field as `Reaches` lists them; recording the result writes none of these fields. -/
theorem eachStateHasItsWriters : Obligations.EachStateHasItsWriters := by
  intro i s t h
  cases hrun : s.flag .halted with
  | true =>
    rw [exec_of_halted i hrun] at h
    cases h
    simp
  | false =>
    obtain ⟨e, u, hu, ht⟩ := (ends_of_exec hrun h).exists_records
    rw [ht]
    exact ⟨hu.inputs_eq, fun hne => (hu.geo_writer hne).1, hu.sync_writer, hu.sv_writer, hu.payload_writer,
      hu.fbits_writer, hu.syms_writer, hu.tpl_writer, hu.txs_writer⟩

/-! ### The writers of each flag (rule R34) -/

/-- A flag does not depend on the data. -/
@[simp] theorem flag_with_data (s : State) (g : Geometry) (sv : List (Option Nat)) (log info : Word) (p b : List Bit)
    (x : List Nat) (w : List Sample) (f : Flag) :
    State.flag { s with geo := g, sv := sv, errlog := log, errinfo := info, payload := p, fbits := b, syms := x, txs := w }
      f = s.flag f := rfl

@[simp] theorem flag_writeLastSv (s : State) (v : Option BandVector) (f : Flag) :
    (s.writeLastSv v).flag f = (decide (v.isSome ∧ Flag.svValid = f) || s.flag f) := by
  cases v <;> simp

theorem getLsbD_or_mask_of_ge (w : Word) (f : Flag) {k : Nat} (hk : 5 ≤ k) :
    (w ||| f.mask).getLsbD k = w.getLsbD k := by
  rw [BitVec.getLsbD_or, mask_reserved f k hk, Bool.or_false]

theorem getLsbD_and_not_mask_of_ge (w : Word) (f : Flag) {k : Nat} (hk : 5 ≤ k) :
    (w &&& ~~~f.mask).getLsbD k = w.getLsbD k := by
  rw [BitVec.getLsbD_and, BitVec.getLsbD_not, mask_reserved f k hk]
  rcases Nat.lt_or_ge k 32 with h | h
  · simp [h]
  · simp [BitVec.getLsbD_of_ge w k h]

theorem reserved_writeLastSv (s : State) (v : Option BandVector) {k : Nat} (hk : 5 ≤ k) :
    (s.writeLastSv v).status.getLsbD k = s.status.getLsbD k := by
  cases v with
  | none => rfl
  | some v => exact getLsbD_or_mask_of_ge _ _ hk

section Flags

variable {i : Instr} {s t u : State} {e : ResultCode}

theorem Reaches.cfgValid_writer (h : Reaches i s e u) (hne : u.flag .cfgValid ≠ s.flag .cfgValid) :
    u.flag .cfgValid = true ∧ i = .derive ∧ e = .ok := by
  cases h with
  | derive => exact ⟨by simp, rfl, rfl⟩
  | _ => simp at hne

/-- `HALTED` is written by recording the result alone. -/
theorem Reaches.halted_eq (h : Reaches i s e u) : u.flag .halted = s.flag .halted := by
  cases h <;> simp

theorem Reaches.configError_writer (h : Reaches i s .configError u) : i = .derive := by
  cases h with
  | refused he => simp at he
  | deriveFails => rfl

theorem Reaches.tplValid_writer (h : Reaches i s e u) (hne : u.flag .tplValid ≠ s.flag .tplValid) :
    u.flag .tplValid = true ∧ i ∈ [Instr.chirp, .txframe, .rxframe] := by
  cases h with
  | chirp | txframe | rxframe | rxframeUnsynced | rxframeFails => exact ⟨by simp, by decide⟩
  | _ => simp at hne

theorem Reaches.svValid_writer (h : Reaches i s e u) (hne : u.flag .svValid ≠ s.flag .svValid) :
    (u.flag .svValid = true ∧ e = .ok ∧ (i ∈ [Instr.txframe, .rxframe] ∨ ∃ k, i = .map k ∨ i = .demod k)) ∨
      (u.flag .svValid = false ∧ e = .decodeError ∧ (i = .rxframe ∨ ∃ k, i = .demod k)) := by
  cases h with
  | map k => exact .inl ⟨by simp, rfl, .inr ⟨k, .inl rfl⟩⟩
  | demod k => exact .inl ⟨by simp, rfl, .inr ⟨k, .inr rfl⟩⟩
  | txframe _ _ _ _ v | rxframe _ _ _ _ _ _ _ v =>
    cases v with
    | none => simp at hne
    | some v => exact .inl ⟨by simp, rfl, .inl (by decide)⟩
  | demodFails k => exact .inr ⟨by simp, rfl, .inr ⟨k, rfl⟩⟩
  | rxframeFails => exact .inr ⟨by simp, rfl, .inl rfl⟩
  | _ => simp at hne

theorem Reaches.synced_writer (h : Reaches i s e u) (hne : u.flag .synced ≠ s.flag .synced) :
    i ∈ [Instr.detect, .rxframe] ∧ (u.flag .synced = false ↔ e = .syncError) := by
  cases h with
  | detect | detectFails | rxframe | rxframeUnsynced | rxframeFails => exact ⟨by decide, by simp⟩
  | _ => simp at hne

/-- Bits 31:5 of `STATUS` are written by nothing. -/
theorem Reaches.reserved_eq (h : Reaches i s e u) {k : Nat} (hk : 5 ≤ k) :
    u.status.getLsbD k = s.status.getLsbD k := by
  have hset (w : Word) (f : Flag) := getLsbD_or_mask_of_ge w f hk
  have hclear (w : Word) (f : Flag) := getLsbD_and_not_mask_of_ge w f hk
  cases h with
  | derive | map | demod | chirp | detect => exact hset _ _
  | demodFails | detectFails => exact hclear _ _
  | txframe => rw [reserved_writeLastSv _ _ hk, writeTpl_status, hset]
  | rxframe => rw [reserved_writeLastSv _ _ hk, writeFrame_status, setSync_status, writeTpl_status, hset, hset]
  | rxframeUnsynced => rw [writeFrame_status, clearSync_status, writeTpl_status, hclear, hset]
  | rxframeFails =>
    rw [invalidateSv_status, writeFrame_status, setSync_status, writeTpl_status, hclear, hset, hset]
  | _ => rfl

theorem Records.reserved_eq (h : Records e u t) {k : Nat} (hk : 5 ≤ k) : t.status.getLsbD k = u.status.getLsbD k := by
  rw [congrArg State.status h]
  split_ifs
  · exact getLsbD_or_mask_of_ge _ _ hk
  · rfl

end Flags

/-- Settles O20: the writers of each flag as `Reaches` lists them; recording the result sets `HALTED` alone. -/
theorem eachFlagHasItsWriters : Obligations.EachFlagHasItsWriters := by
  intro i s t h
  cases hrun : s.flag .halted with
  | true =>
    rw [exec_of_halted i hrun] at h
    cases h
    simp [hrun]
  | false =>
    obtain ⟨e, u, hu, ht⟩ := (ends_of_exec hrun h).exists_records
    have hflag {f : Flag} (hf : Flag.halted ≠ f) : t.flag f = u.flag f := by
      rw [ht.flag_eq, decide_eq_false fun hc => hf hc.2, Bool.false_or]
    rw [hflag (f := .cfgValid) (by decide), hflag (f := .tplValid) (by decide), hflag (f := .svValid) (by decide),
      hflag (f := .synced) (by decide), ht.flag_eq .halted, hu.halted_eq, hrun, ht.result_eq]
    have hcode (f : ResultCode) : e.resultWord = f.resultWord ↔ e = f :=
      ⟨resultWord_injective, fun he => he ▸ rfl⟩
    refine ⟨fun k hk => ?_, fun hne => ?_, fun hne => ?_, hu.tplValid_writer, fun hne => ?_, fun hne => ?_⟩
    · rw [ht.reserved_eq hk, hu.reserved_eq hk]
    · obtain ⟨hc, hi, rfl⟩ := hu.cfgValid_writer hne
      exact ⟨hc, hi, rfl⟩
    · have he : e = .configError := by simpa using hne
      subst he
      exact ⟨by decide, hu.configError_writer, rfl⟩
    · exact (hu.svValid_writer hne).imp (fun ⟨hv, he, hi⟩ => ⟨hv, he ▸ rfl, hi⟩) fun ⟨hv, he, hi⟩ => ⟨hv, he ▸ rfl, hi⟩
    · obtain ⟨hi, hs⟩ := hu.synced_writer hne
      exact ⟨hi, hs.trans (hcode .syncError).symm⟩

/-! ### The configuration lock (rule R24) -/

/-- If `s` is configured then so is `t`, with the configuration and the geometry of `s`. -/
def KeepsConfig (s t : State) : Prop :=
  s.flag .cfgValid = true → t.flag .cfgValid = true ∧ t.cfg = s.cfg ∧ t.geo = s.geo

section Lock

variable {s t : State}

theorem KeepsConfig.refl (s : State) : KeepsConfig s s := fun hc => ⟨hc, rfl, rfl⟩

theorem keepsConfig_exec {i : Instr} (h : exec i s = .next t) : KeepsConfig s t := by
  cases hrun : s.flag .halted with
  | true =>
    rw [exec_of_halted i hrun] at h
    cases h
    exact .refl s
  | false =>
    intro hc
    obtain ⟨e, u, hu, ht⟩ := (ends_of_exec hrun h).exists_records
    refine ⟨?_, (congrArg State.cfg ht).trans hu.inputs_eq.1, (congrArg State.geo ht).trans ?_⟩
    · rw [ht.flag_eq, Bool.or_eq_true]
      by_contra hno
      exact hno (.inr (hu.cfgValid_writer fun heq => hno (.inr (heq.trans hc))).1)
    · by_contra hne
      exact Bool.false_ne_true ((hu.geo_writer hne).2.symm.trans hc)

theorem keepsConfig_issueWord {c : Word} (h : issueWord c s = .next t) : KeepsConfig s t := by
  have hreject {info : BitVec 8} (h : rejectWord info { s with cmd := c } = .next t) : KeepsConfig s t := by
    rw [rejectWord, unlessHalted_eq] at h
    cases h
    split_ifs
    · exact .refl s
    · exact fun hc => ⟨hc, rfl, rfl⟩
  unfold issueWord at h
  split_ifs at h
  · cases h
    exact .refl s
  · split at h
    · exact keepsConfig_exec (s := { s with cmd := c }) h
    · exact hreject h
    · exact hreject h

theorem keepsConfig_writeReg (s : State) (no : Nat) (v : Rat) : KeepsConfig s (s.writeReg no v) := by
  intro hc
  refine ⟨(flag_writeReg s no v _).trans hc, ?_, writeReg_geo s no v⟩
  unfold State.writeReg
  split_ifs <;> rfl

theorem keepsConfig_loadBuffer (s : State) (buf : Buffer) (d : BufData) : KeepsConfig s (s.loadBuffer buf d) := by
  intro hc
  refine ⟨?_, loadBuffer_cfg s buf d, loadBuffer_geo s buf d⟩
  fun_cases State.loadBuffer s buf d with
  | case9 =>
    rw [flag_clearSync]
    exact hc
  | _ => exact hc

theorem keepsConfig_hostMove {m : HostMove} (hm : m ≠ .reset) (h : hostMove m s = .next t) : KeepsConfig s t := by
  cases m with
  | writeReg no v =>
    rw [hostMove, hostWriteReg] at h
    split_ifs at h
    · split at h
      · exact keepsConfig_issueWord h
      · cases h
        exact .refl s
    · cases h
      exact keepsConfig_writeReg s no v
  | writeSv v =>
    cases h
    unfold hostWriteSv
    split_ifs
    · exact fun hc => ⟨by simpa using hc, rfl, rfl⟩
    · exact .refl s
  | load buf d =>
    cases h
    unfold hostLoad
    split_ifs
    · exact .refl s
    · exact keepsConfig_loadBuffer s buf d
  | issue c => exact keepsConfig_issueWord h
  | reset => exact absurd rfl hm
  | readReg | readSv | read =>
    cases h
    exact fun hc => ⟨hc, rfl, rfl⟩

end Lock

/-- Settles O12: a success of `DERIVE` reaches a state with the flag set, and each move but the reset keeps the lock. -/
theorem configurationIsLocked : Obligations.ConfigurationIsLocked := by
  refine ⟨fun s t hrun h hresult => ?_, fun s t hc hreset hstep => ?_⟩
  · obtain ⟨e, u, hu, ht⟩ := (ends_of_exec hrun h).exists_records
    have he : e = .ok := resultWord_eq_zero (ht.result_eq.symm.trans hresult)
    subst he
    cases hu with
    | refused he => simp at he
    | derive => simp [ht.flag_eq]
  · cases hp : s.pending with
    | nil =>
      rw [step, nextMove, hp] at hstep
      cases hstep
      exact ⟨hc, rfl, rfl⟩
    | cons m rest =>
      rw [step_of_pending hp] at hstep
      have hm : m ≠ .reset := fun hm => hreset rest (hm ▸ hp)
      exact keepsConfig_hostMove (s := { s with pending := rest }) hm hstep hc

end Sys2Proof.Proofs
end

section
/-! SUPPORT. `ARG0` as an input: only `UNPACK` reads it (rule R26). -/

namespace Sys2Proof.Proofs

open Sys2Proof.Machine Sys2Proof.Safety

/-- The state with another value in `ARG0`. -/
def setArg0 (a : Nat) (s : State) : State := { s with arg0 := a }

@[simp] theorem setArg0_cfg (a : Nat) (s : State) : (setArg0 a s).cfg = s.cfg := rfl
@[simp] theorem setArg0_geo (a : Nat) (s : State) : (setArg0 a s).geo = s.geo := rfl
@[simp] theorem setArg0_sync (a : Nat) (s : State) : (setArg0 a s).sync = s.sync := rfl
@[simp] theorem setArg0_fbits (a : Nat) (s : State) : (setArg0 a s).fbits = s.fbits := rfl
@[simp] theorem setArg0_syms (a : Nat) (s : State) : (setArg0 a s).syms = s.syms := rfl
@[simp] theorem setArg0_tpl (a : Nat) (s : State) : (setArg0 a s).tpl = s.tpl := rfl
@[simp] theorem setArg0_rxs (a : Nat) (s : State) : (setArg0 a s).rxs = s.rxs := rfl
@[simp] theorem setArg0_caps (a : Nat) (s : State) : (setArg0 a s).caps = s.caps := rfl
@[simp] theorem setArg0_svValue (a : Nat) (s : State) : (setArg0 a s).svValue = s.svValue := rfl

theorem succeed_writeLastSv_setArg0 (a : Nat) (s : State) (v : Option BandVector) :
    succeed ((setArg0 a s).writeLastSv v) = setArg0 a (succeed (s.writeLastSv v)) := by
  cases v <;> rfl

section Commands

variable {s t : State} {a : Nat}

theorem unlessHalted_setArg0 {b b' : State} (h : unlessHalted s b = .next t) (hb : b' = setArg0 a b) :
    unlessHalted (setArg0 a s) b' = .next (setArg0 a t) := by
  rw [unlessHalted_eq] at h ⊢
  cases h
  rw [hb, apply_ite (setArg0 a)]
  rfl

theorem configured_setArg0 {b b' : State} (h : configured s b = .next t) (hb : b' = setArg0 a b) :
    configured (setArg0 a s) b' = .next (setArg0 a t) :=
  unlessHalted_setArg0 h (by rw [hb, apply_ite (setArg0 a)]; rfl)

theorem execDerive_setArg0 (h : execDerive s = .next t) : execDerive (setArg0 a s) = .next (setArg0 a t) := by
  refine unlessHalted_setArg0 h ?_
  rw [apply_ite (setArg0 a), setArg0_cfg, setArg0_caps]
  cases derive s.cfg s.caps.bands <;> rfl

theorem execDeframe_setArg0 (h : execDeframe s = .next t) : execDeframe (setArg0 a s) = .next (setArg0 a t) := by
  refine configured_setArg0 h ?_
  rw [setArg0_cfg, setArg0_fbits]
  cases parseFrame s.fbits s.cfg.lengthFieldBits <;> rfl

theorem execMap_setArg0 {k : Nat} (h : execMap k s = .next t) : execMap k (setArg0 a s) = .next (setArg0 a t) := by
  refine configured_setArg0 h ?_
  rw [setArg0_syms]
  cases s.syms[k]? with
  | none => rfl
  | some symbol =>
    simp only [apply_ite (setArg0 a)]
    rfl

theorem execUnmap_setArg0 (h : execUnmap s = .next t) : execUnmap (setArg0 a s) = .next (setArg0 a t) := by
  refine configured_setArg0 h ?_
  rw [setArg0_svValue, setArg0_geo]
  cases s.svValue with
  | none => rfl
  | some v =>
    cases hdigit : firstNotBelow s.geo.statesPerBand v <;> simp only [hdigit, apply_ite (setArg0 a)] <;> rfl

theorem execMod_setArg0 (h : execMod s = .next t) : execMod (setArg0 a s) = .next (setArg0 a t) := by
  refine configured_setArg0 h ?_
  rw [setArg0_svValue, setArg0_geo]
  cases s.svValue with
  | none => rfl
  | some v =>
    cases hdigit : firstNotBelow s.geo.statesPerBand v <;> simp only [hdigit, apply_ite (setArg0 a)] <;> rfl

theorem execDemod_setArg0 {k : Nat} (h : execDemod k s = .next t) :
    execDemod k (setArg0 a s) = .next (setArg0 a t) := by
  refine configured_setArg0 h ?_
  simp only [apply_ite (setArg0 a), setArg0_cfg, setArg0_geo, setArg0_sync, setArg0_rxs]
  cases demodulate Config.num s.cfg s.geo (window s.rxs s.sync.dataStart s.geo.nSymbol k) <;> rfl

theorem execDetect_setArg0 (h : execDetect s = .next t) : execDetect (setArg0 a s) = .next (setArg0 a t) := by
  refine configured_setArg0 h ?_
  rw [apply_ite (setArg0 a), setArg0_cfg, setArg0_tpl, setArg0_rxs]
  cases detect s.rxs s.tpl s.cfg.syncThreshold <;> rfl

theorem execTxframe_setArg0 (h : execTxframe s = .next t) : execTxframe (setArg0 a s) = .next (setArg0 a t) := by
  refine configured_setArg0 h ?_
  simp only [apply_ite (setArg0 a), ← succeed_writeLastSv_setArg0]
  rfl

theorem execRxframe_setArg0 (h : execRxframe s = .next t) : execRxframe (setArg0 a s) = .next (setArg0 a t) := by
  refine configured_setArg0 h ?_
  simp only [apply_ite (setArg0 a), setArg0_cfg, setArg0_geo, setArg0_rxs]
  cases rxFrame Config.num s.cfg s.geo s.rxs with
  | ok k p ds symbols fbits payload last =>
    simp only [← succeed_writeLastSv_setArg0]
    rfl
  | syncError | decodeError => rfl

end Commands

/-- Settles O21: each command's checks and writes are the same with another `ARG0`. -/
theorem onlyUnpackReadsArg0 : Obligations.OnlyUnpackReadsArg0 := by
  intro i s t a hi h
  change exec i (setArg0 a s) = .next (setArg0 a t)
  cases i with
  | nop | clrerr => exact unlessHalted_setArg0 h rfl
  | frame | pack | chirp | txpre =>
    refine configured_setArg0 h ?_
    simp only [apply_ite (setArg0 a)]
    rfl
  | unpack => exact absurd rfl hi
  | derive => exact execDerive_setArg0 h
  | deframe => exact execDeframe_setArg0 h
  | map k => exact execMap_setArg0 h
  | unmap => exact execUnmap_setArg0 h
  | mod => exact execMod_setArg0 h
  | demod k => exact execDemod_setArg0 h
  | detect => exact execDetect_setArg0 h
  | txframe => exact execTxframe_setArg0 h
  | rxframe => exact execRxframe_setArg0 h

end Sys2Proof.Proofs
end

section
/-! SUPPORT. What `rx_frame` answers, step by step (rules R177, R188). -/

namespace Sys2Proof.Proofs

open Sys2Proof.Machine Sys2Proof.Safety

theorem ceilDiv_mono {a b : Nat} (w : Nat) (h : a ≤ b) : ceilDiv a w ≤ ceilDiv b w :=
  Nat.div_le_div_right (by omega)

/-- A window does not fail for its length, so its index is that of the window or of the band (rules R157, R197). -/
theorem windowErrorIndex_of_demodulate {num : Numerics} {c : ConfigRegs} {g : Geometry} {x : List Sample}
    {e : DecodeCause} {b : Nat} (h : demodulate num c g x = .error (e, b)) (i : Nat) :
    windowErrorIndex e i b = if e = .alphabet then i else b := by
  cases e with
  | length => exact absurd h (demodulate_ne_length num c g x b)
  | alphabet | emptyBand | stepIndex => rfl

section Frame

variable {num : Numerics} {c : ConfigRegs} {g : Geometry} {rx : List Sample}

/-- Windows decode to a list of vectors exactly when each decodes to its vector. -/
theorem demodWindows_eq_ok {ds first count : Nat} {vs : List BandVector} :
    demodWindows num c g rx ds first count = .ok vs ↔
      vs.length = count ∧ ∀ i v, vs[i]? = some v → demodulate num c g (window rx ds g.nSymbol (first + i)) = .ok v := by
  rw [demodWindows, collect_range'_eq_ok]
  refine and_congr_right' (forall₂_congr fun i v => imp_congr_right fun _ => ?_)
  cases demodulate num c g (window rx ds g.nSymbol (first + i)) <;> simp

/-- The first window that does not decode gives its cause and index. -/
theorem demodWindows_of_error {ds first count i b : Nat} {e : DecodeCause} (hfirst : first ≤ i)
    (hlast : i < first + count)
    (hbefore : ∀ j, first ≤ j → j < i → ∃ v, demodulate num c g (window rx ds g.nSymbol j) = .ok v)
    (hfail : demodulate num c g (window rx ds g.nSymbol i) = .error (e, b)) :
    demodWindows num c g rx ds first count = .error (e, if e = .alphabet then i else b) := by
  refine (collect_range'_eq_error _ _ _ _).2 ⟨i, hfirst, hlast, ?_, fun j hj hji => ?_⟩
  · rw [hfail, ← windowErrorIndex_of_demodulate hfail i]
  · obtain ⟨v, hv⟩ := hbefore j hj hji
    exact ⟨v, by rw [hv]⟩

/-! ### After the header (steps 6 to 8 of rule R188) -/

section Body

variable {k : Nat} {p : Rat} {ds n : Nat} {header : List BandVector}
  (hn : beValue (unpack (header.map (fromStates g.statesPerBand)) g.bitsPerSymbol c.lengthFieldBits) = n)
include hn

theorem rxBody_of_short (hshort : rx.length < ds + ceilDiv (c.lengthFieldBits + n) g.bitsPerSymbol * g.nSymbol) :
    rxBody num c g rx k p ds header = .decodeError k p ds .length 0 := by
  subst hn
  exact if_pos hshort

variable (hlong : ds + ceilDiv (c.lengthFieldBits + n) g.bitsPerSymbol * g.nSymbol ≤ rx.length)
include hlong

theorem rxBody_of_error {e : DecodeCause} {index : Nat}
    (hrest : demodWindows num c g rx ds header.length
      (ceilDiv (c.lengthFieldBits + n) g.bitsPerSymbol - header.length) = .error (e, index)) :
    rxBody num c g rx k p ds header = .decodeError k p ds e index := by
  subst hn
  simp only [rxBody, if_neg (not_lt.2 hlong), hrest]

theorem rxBody_of_ok {rest : List BandVector}
    (hrest : demodWindows num c g rx ds header.length
      (ceilDiv (c.lengthFieldBits + n) g.bitsPerSymbol - header.length) = .ok rest) :
    rxBody num c g rx k p ds header =
      let symbols := (header ++ rest).map (fromStates g.statesPerBand)
      let fbits := unpack symbols g.bitsPerSymbol (c.lengthFieldBits + n)
      .ok k p ds symbols fbits ((fbits.drop c.lengthFieldBits).take n) (header ++ rest).getLast? := by
  subst hn
  simp only [rxBody, if_neg (not_lt.2 hlong), hrest, slice, Nat.add_sub_cancel_left]

end Body

/-! ### After the detection (steps 2 to 5 of rule R188) -/

section Detected

variable {k : Nat} {p : Rat} (hd : detect rx (chirp num c g) c.syncThreshold = .ok (k, p))
include hd

theorem rxFrame_of_short
    (hshort : rx.length < k + g.lPreamble + g.gGuard + ceilDiv c.lengthFieldBits g.bitsPerSymbol * g.nSymbol) :
    rxFrame num c g rx = .decodeError k p (k + g.lPreamble + g.gGuard) .length 0 := by
  simp only [rxFrame, hd, if_pos hshort]

variable
  (hlong : k + g.lPreamble + g.gGuard + ceilDiv c.lengthFieldBits g.bitsPerSymbol * g.nSymbol ≤ rx.length)
include hlong

theorem rxFrame_of_error {e : DecodeCause} {index : Nat}
    (hheader : demodWindows num c g rx (k + g.lPreamble + g.gGuard) 0 (ceilDiv c.lengthFieldBits g.bitsPerSymbol) =
      .error (e, index)) :
    rxFrame num c g rx = .decodeError k p (k + g.lPreamble + g.gGuard) e index := by
  simp only [rxFrame, hd, if_neg (not_lt.2 hlong), hheader]

theorem rxFrame_of_header {header : List BandVector}
    (hheader : demodWindows num c g rx (k + g.lPreamble + g.gGuard) 0 (ceilDiv c.lengthFieldBits g.bitsPerSymbol) =
      .ok header) :
    rxFrame num c g rx = rxBody num c g rx k p (k + g.lPreamble + g.gGuard) header := by
  simp only [rxFrame, hd, if_neg (not_lt.2 hlong), hheader]

end Detected

/-- Of windows that decode, the first ones give the header and the others the rest. -/
theorem demodWindows_split {ds m n : Nat} {vs header : List BandVector}
    (hvs : demodWindows num c g rx ds 0 n = .ok vs) (hheader : demodWindows num c g rx ds 0 m = .ok header)
    (hm : m ≤ n) :
    ∃ rest, vs = header ++ rest ∧ demodWindows num c g rx ds header.length (n - header.length) = .ok rest := by
  obtain ⟨rfl, hall⟩ := demodWindows_eq_ok.1 hvs
  have hlen : (vs.take m).length = m := List.length_take_of_le hm
  have htake : demodWindows num c g rx ds 0 m = .ok (vs.take m) := by
    refine demodWindows_eq_ok.2 ⟨hlen, fun i v hi => hall i v ?_⟩
    rw [List.getElem?_take] at hi
    split_ifs at hi
    exact hi
  cases hheader.symm.trans htake
  rw [hlen]
  refine ⟨vs.drop m, (List.take_append_drop m vs).symm, demodWindows_eq_ok.2 ⟨List.length_drop, fun i v hi => ?_⟩⟩
  rw [List.getElem?_drop] at hi
  simpa using hall _ v hi

end Frame

/-- Settles O60: the two groups of windows by `demodWindows`, the checks before each by the equations of `rx_frame`. -/
theorem rxFrameAnswersItsSteps : Obligations.RxFrameAnswersItsSteps := by
  intro num c g rx lfb w K0
  refine ⟨fun e he => by rw [rxFrame, he], ?_⟩
  intro k p hd ds dec bitsOf
  refine ⟨rxFrame_of_short hd, fun hlong => ?_⟩
  have hdec : dec = fun i => demodulate num c g (window rx ds g.nSymbol i) := funext fun i => by rw [window_eq]
  clear_value dec
  subst hdec
  refine ⟨fun i e b hi hbefore hfail => ?_, ?_⟩
  · exact rxFrame_of_error hd hlong
      (demodWindows_of_error (Nat.zero_le i) (by rwa [Nat.zero_add]) (fun j _ => hbefore j) hfail)
  intro header hcount hheader n K
  have hheader' : demodWindows num c g rx ds 0 K0 = .ok header :=
    demodWindows_eq_ok.2 ⟨hcount, by simpa using hheader⟩
  have hn : beValue (unpack (header.map (fromStates g.statesPerBand)) w lfb) = n := by rw [unpack_map_fromStates]
  have hK : K0 ≤ K := ceilDiv_mono w (Nat.le_add_right lfb n)
  rw [rxFrame_of_header hd hlong hheader']
  refine ⟨rxBody_of_short hn, fun hlong' => ⟨fun i e b hfirst hi hbefore hfail => ?_, fun vs hvs hall => ?_⟩⟩
  · exact rxBody_of_error hn hlong' (demodWindows_of_error (hcount.trans_le hfirst)
      (hi.trans_eq (Nat.add_sub_cancel' (hcount.trans_le hK)).symm) (fun j hj => hbefore j (hcount.symm.trans_le hj)) hfail)
  · have hvs' : demodWindows num c g rx ds 0 K = .ok vs := demodWindows_eq_ok.2 ⟨hvs, by simpa using hall⟩
    obtain ⟨rest, rfl, hrest⟩ := demodWindows_split hvs' hheader' hK
    rw [rxBody_of_ok hn hlong' hrest]
    simp only [unpack_map_fromStates]
    rfl

end Sys2Proof.Proofs
end

section
/-! SUPPORT. The command port: reserved words, issued words, the register numbers and mode HALTED (rules R59, R63, R71,
R74, R212). -/

namespace Sys2Proof.Proofs

open Sys2Proof.Machine Sys2Proof.Safety

/-! ### Reserved words (rule R74) -/

/-- A command with no operand rejects an `imm` that is not 0, and for that alone. -/
theorem plainCommand_eq_error (i : Instr) (imm : BitVec 24) (r : DecodeReject) :
    plainCommand i imm = .error r ↔ imm.toNat ≠ 0 ∧ r = .nonZeroImmediate := by
  have hzero : imm = 0 ↔ imm.toNat = 0 := BitVec.toNat_inj.symm
  rw [plainCommand, ne_eq, ← hzero]
  split_ifs with h
  · simp [h]
  · rw [Except.error.injEq, eq_comm, and_iff_right h]

/-- The column `op` of rule R72. -/
def tableOpcodes : List Nat :=
  [0x00, 0x01, 0x02, 0x10, 0x11, 0x12, 0x13, 0x20, 0x21, 0x30, 0x31, 0x40, 0x41, 0x42, 0x50, 0x51]

/-- The rows of rule R72 with no operand. -/
def plainOpcodes : List Nat := [0x00, 0x01, 0x02, 0x10, 0x11, 0x12, 0x13, 0x21, 0x30, 0x40, 0x41, 0x42, 0x50, 0x51]

/-- A word is rejected for its `op` when that is not in the table, and for its `imm` when the command has no operand. -/
theorem decode_eq_error (c : Word) (r : DecodeReject) :
    decode c = .error r ↔
      (c.toNat / 2 ^ 24 ∉ tableOpcodes ∧ r = .undefinedOpcode) ∨
        (c.toNat / 2 ^ 24 ∈ plainOpcodes ∧ c.toNat % 2 ^ 24 ≠ 0 ∧ r = .nonZeroImmediate) := by
  rw [decode, opField_toNat]
  split
  case h_17 => simp_all [tableOpcodes, plainOpcodes, eq_comm]
  all_goals simp_all [tableOpcodes, plainOpcodes, plainCommand_eq_error, immField_toNat]

theorem decode_eq_undefinedOpcode (c : Word) :
    decode c = .error .undefinedOpcode ↔ c.toNat / 2 ^ 24 ∉ tableOpcodes := by
  simp [decode_eq_error]

theorem decode_eq_nonZeroImmediate (c : Word) :
    decode c = .error .nonZeroImmediate ↔ c.toNat / 2 ^ 24 ∈ plainOpcodes ∧ c.toNat % 2 ^ 24 ≠ 0 := by
  simp [decode_eq_error]

/-- The `ERRINFO.INFO` number of a rejected word (rule R74). -/
def rejectInfo : DecodeReject → Nat
  | .undefinedOpcode => 1
  | .nonZeroImmediate => 2

/-! ### Issuing a word (rules R63, R71) -/

theorem step_issue {s : State} {c : Word} {rest : List HostMove} (h : s.pending = .issue c :: rest) :
    step s = issueWord c { s with pending := rest } := step_of_pending h

theorem issueWord_of_halted {s : State} (h : s.flag .halted = true) (c : Word) : issueWord c s = .next s := if_pos h

section Running

variable {s : State} (hrun : s.flag .halted = false) {c : Word}
include hrun

theorem issueWord_of_decode {i : Instr} (h : decode c = .ok i) : issueWord c s = exec i { s with cmd := c } := by
  simp only [issueWord, hrun, h, Bool.false_eq_true, if_false]

theorem issueWord_of_error {r : DecodeReject} (h : decode c = .error r) :
    issueWord c s = .next (failed { s with cmd := c } 6 (rejectInfo r) 0) := by
  have hreject (info : BitVec 8) :
      rejectWord info { s with cmd := c } = .next (failed { s with cmd := c } 6 info.toNat 0) :=
    (unlessHalted_of_running (s := { s with cmd := c }) hrun _).trans (congrArg _ (raiseAt_eq_failed (by decide) _ _ _))
  simp only [issueWord, hrun, h, Bool.false_eq_true, if_false]
  cases r with
  | undefinedOpcode => exact hreject 1
  | nonZeroImmediate => exact hreject 2

end Running

/-- Settles O3: the two kinds of rejection by the rows of the table, and what issuing such a word records. -/
theorem reservedWordsRaiseIllegalCommand : Obligations.ReservedWordsRaiseIllegalCommand := by
  intro c
  refine ⟨decode_eq_undefinedOpcode c, decode_eq_nonZeroImmediate c, fun s rest hp hrun => ?_⟩
  have hstep {r : DecodeReject} (h : decode c = .error r) :
      step s = .next (failed { s with pending := rest, cmd := c } 6 (rejectInfo r) 0) :=
    (step_issue hp).trans (issueWord_of_error (s := { s with pending := rest }) hrun h)
  exact ⟨fun h => ⟨_, hstep h, rfl⟩, fun h => ⟨_, hstep h, rfl⟩⟩

/-- Settles O5: issuing a word that decodes. -/
theorem stepRunsTheIssuedCommand : Obligations.StepRunsTheIssuedCommand :=
  fun s _ rest _ hp hrun hdec => (step_issue hp).trans (issueWord_of_decode (s := { s with pending := rest }) hrun hdec)

/-! ### Mode HALTED (rule R212) -/

theorem hostWriteReg_of_halted {s : State} (h : s.flag .halted = true) (no : Nat) (v : Rat) :
    hostWriteReg no v s = .next s := by
  unfold hostWriteReg
  split_ifs
  · split
    · exact issueWord_of_halted h _
    · rfl
  · rw [State.writeReg, if_pos h]

theorem hostWriteSv_of_halted {s : State} (h : s.flag .halted = true) (v : BandVector) : hostWriteSv v s = s := by
  simp [hostWriteSv, h]

theorem hostLoad_of_halted {s : State} (h : s.flag .halted = true) (buf : Buffer) (d : BufData) :
    hostLoad buf d s = s := if_pos h

/-- Settles O6: each write move and each command finds the flag set. -/
theorem haltedIgnoresEveryWriteAndCommand : Obligations.HaltedIgnoresEveryWriteAndCommand := by
  refine ⟨fun s m rest hp h hm => ?_, fun i s => exec_of_halted i⟩
  have h' : State.flag { s with pending := rest } .halted = true := h
  rw [step_of_pending hp]
  cases m with
  | writeReg no v => exact hostWriteReg_of_halted h' no v
  | writeSv v => exact congrArg _ (hostWriteSv_of_halted h' v)
  | load buf d => exact congrArg _ (hostLoad_of_halted h' buf d)
  | issue c => exact issueWord_of_halted h' c
  | readReg | readSv | read | reset => exact hm.elim

/-! ### The register space and the command port (rule R59) -/

theorem readReg_of_reserved (s : State) {no : Nat} (h : no ∈ [13, 14, 15, 27, 28, 29, 30, 31] ∨ 37 ≤ no) :
    s.readReg no = 0 := by
  fun_cases State.readReg s no with
  | case30 => rfl
  | _ => simp at h

/-- The value a word crosses the port with gives that word back (log 8). -/
theorem wordOf_toNat (c : Word) : wordOf (c.toNat : Rat) = some c := by
  simp [wordOf, c.isLt]

/-- Every command answers a next state (rules R195, R205, R206). -/
theorem exists_exec_eq_next (i : Instr) (s : State) : ∃ t, exec i s = .next t := by
  cases i with
  | nop | derive | clrerr => exact ⟨_, unlessHalted_eq s _⟩
  | _ => exact ⟨_, configured_eq s _⟩

/-- No command writes `CMD` (rule R59). -/
theorem cmd_of_exec {i : Instr} {s t : State} (h : exec i s = .next t) : t.cmd = s.cmd := by
  obtain ⟨⟨-, -, hcmd, -⟩, -⟩ := eachStateHasItsWriters i s t h
  exact hcmd

/-- The port keeps every word that is not ignored (log 10). -/
theorem issueWord_keeps_word {s : State} (hrun : s.flag .halted = false) (c : Word) :
    ∃ t, issueWord c s = .next t ∧ t.cmd = c := by
  cases h : decode c with
  | ok i =>
    obtain ⟨t, ht⟩ := exists_exec_eq_next i { s with cmd := c }
    exact ⟨t, (issueWord_of_decode hrun h).trans ht, cmd_of_exec ht⟩
  | error r => exact ⟨_, issueWord_of_error hrun h, rfl⟩

/-- Settles O55: the numbers no row of the register map has, and the port in both of its forms. -/
theorem reservedRegistersAndTheCommandPort : Obligations.ReservedRegistersAndTheCommandPort := by
  refine ⟨fun s no => readReg_of_reserved s, fun s c rest => ?_, fun s c rest hp hrun => ?_⟩
  · rw [step_of_pending rfl, step_of_pending rfl, hostMove, hostWriteReg, if_pos rfl, wordOf_toNat]
    rfl
  · obtain ⟨t, ht, rfl⟩ := issueWord_keeps_word (s := { s with pending := rest }) hrun c
    exact ⟨t, (step_issue hp).trans ht, rfl, rfl⟩

end Sys2Proof.Proofs
end

section
/-! SUPPORT. `DEMOD i` on a window inside the capture (rules R56, R157, R197). -/

namespace Sys2Proof.Proofs

open Sys2Proof.Machine Sys2Proof.Safety

section Demod

variable {s : State} {i : Nat} (hrun : s.flag .halted = false) (hcfg : s.flag .cfgValid = true)
  (hsync : s.flag .synced = true) (hinside : s.sync.dataStart + (i + 1) * s.geo.nSymbol ≤ s.rxs.length)
include hrun hcfg hsync hinside

theorem execDemod_of_ok {v : BandVector}
    (h : demodulate Config.num s.cfg s.geo (window s.rxs s.sync.dataStart s.geo.nSymbol i) = .ok v) :
    execDemod i s = .next (succeed (s.writeSv v)) := by
  rw [execDemod, configured_of_ready hrun hcfg, if_neg (by simp [hsync]), if_neg (not_lt.2 hinside), h]

theorem execDemod_of_error {e : DecodeCause} {b : Nat}
    (h : demodulate Config.num s.cfg s.geo (window s.rxs s.sync.dataStart s.geo.nSymbol i) = .error (e, b)) :
    execDemod i s =
      .next (failed s.invalidateSv 3 e.info.toNat (windowErrorIndex e i b)) := by
  rw [execDemod, configured_of_ready hrun hcfg, if_neg (by simp [hsync]), if_neg (not_lt.2 hinside), h]
  exact congrArg _ (raiseAt_eq_failed (by decide) _ _ _)

end Demod

/-- Settles O43: the window as samples of the capture, and its vector or the number and index of its failure. -/
theorem demodWritesTheVector : Obligations.DemodWritesTheVector := by
  intro s i hrun hcfg hsync hinside x
  have hx : window s.rxs s.sync.dataStart s.geo.nSymbol i = x := window_eq _ _ _ _
  refine ⟨fun v h => execDemod_of_ok hrun hcfg hsync hinside (hx ▸ h), ?_⟩
  intro failedWith b
  have hfail {e : DecodeCause} (h : demodulate Config.num s.cfg s.geo x = .error (e, b)) :
      exec (.demod i) s = .next (failedWith e.info.toNat (windowErrorIndex e i b)) := by
    refine (execDemod_of_error hrun hcfg hsync hinside (hx ▸ h)).trans ?_
    simp only [failedWith, List.map_const']
    rfl
  exact ⟨hfail, hfail, hfail⟩

end Sys2Proof.Proofs
end

section
/-! SUPPORT. The commands that replace their destination, repeated (rule R58): the second time they meet the same checks and
write what is already there. -/

namespace Sys2Proof.Proofs

open Sys2Proof.Machine Sys2Proof.Safety

/-! ### Writing what is already there -/

section Unchanged

variable {s : State}

theorem mask_eq_twoPow (f : Flag) : f.mask = BitVec.twoPow 32 f.bit := by cases f <;> rfl

theorem setFlag_eq_self {f : Flag} (h : s.flag f = true) : s.setFlag f = s := by
  have hstatus : s.status ||| f.mask = s.status := by
    refine BitVec.eq_of_getLsbD_eq fun k _ => ?_
    rw [BitVec.getLsbD_or, mask_eq_twoPow, BitVec.getLsbD_twoPow, Bool.or_eq_left_iff_imp, Bool.and_eq_true,
      decide_eq_true_eq, decide_eq_true_eq]
    rintro ⟨-, rfl⟩
    exact h
  rw [State.setFlag, hstatus]

theorem clearFlag_eq_self {f : Flag} (h : s.flag f = false) : s.clearFlag f = s := by
  have hstatus : s.status &&& ~~~f.mask = s.status := by
    refine BitVec.eq_of_getLsbD_eq fun k hk => ?_
    rw [BitVec.getLsbD_and, BitVec.getLsbD_not, mask_eq_twoPow, BitVec.getLsbD_twoPow, Bool.and_eq_left_iff_imp]
    intro hset
    have hne : f.bit ≠ k := by
      rintro rfl
      exact Bool.false_ne_true (h.symm.trans hset)
    simp [hk, hne]
  rw [State.clearFlag, hstatus]

/-! The hypotheses of these are one conjunction each, since `simp` discharges that where it does not discharge an equation of
a field that holds by unfolding alone. -/

theorem writeSv_eq_self {v : BandVector} (h : s.sv = v.map some ∧ s.flag .svValid = true) : s.writeSv v = s := by
  obtain ⟨hsv, hflag⟩ := h
  rw [State.writeSv, ← hsv]
  exact setFlag_eq_self hflag

theorem writeTpl_eq_self {x : List Sample} (h : s.tpl = x ∧ s.flag .tplValid = true) : s.writeTpl x = s := by
  obtain ⟨htpl, hflag⟩ := h
  rw [State.writeTpl, ← htpl]
  exact setFlag_eq_self hflag

theorem setSync_eq_self {k d : Nat} {p : Rat} (h : s.sync = ⟨k, p, d⟩ ∧ s.flag .synced = true) :
    s.setSync k p d = s := by
  obtain ⟨hsync, hflag⟩ := h
  rw [State.setSync, ← hsync]
  exact setFlag_eq_self hflag

theorem clearSync_eq_self (h : s.sync = ⟨0, 0, 0⟩ ∧ s.flag .synced = false) : s.clearSync = s := by
  obtain ⟨hsync, hflag⟩ := h
  rw [State.clearSync, ← hsync]
  exact clearFlag_eq_self hflag

theorem invalidateSv_eq_self (h : s.sv = List.replicate s.sv.length none ∧ s.flag .svValid = false) :
    s.invalidateSv = s := by
  obtain ⟨hsv, hflag⟩ := h
  rw [State.invalidateSv, ← hsv]
  exact clearFlag_eq_self hflag

theorem writeFrame_eq_self {x : List Nat} {f p : List Bit} (h : s.syms = x ∧ s.fbits = f ∧ s.payload = p) :
    s.writeFrame x f p = s := by
  obtain ⟨rfl, rfl, rfl⟩ := h
  rfl

theorem succeed_succeed (s : State) : succeed (succeed s) = succeed s := rfl

theorem raiseAt_raiseAt (e : ResultCode) (info : BitVec 8) (index : Nat) (s : State) :
    raiseAt e info index (raiseAt e info index s) = raiseAt e info index s := by
  by_cases h : e = .configError <;> simp [raiseAt, h, BitVec.or_assoc]

theorem flag_with_txs_result (s : State) (x : List Sample) (r : Word) (f : Flag) :
    State.flag { s with txs := x, result := r } f = s.flag f := rfl

theorem raiseErr_raiseErr (e : ResultCode) (info : BitVec 8) (s : State) :
    raiseErr e info (raiseErr e info s) = raiseErr e info s := raiseAt_raiseAt e info 0 s

end Unchanged

section Commands

variable {s t : State}

/-- Only `DERIVE` changes the mode. -/
theorem mode_flags_of_exec {i : Instr} (hi : i ≠ .derive) (h : exec i s = .next t) :
    t.flag .halted = s.flag .halted ∧ t.flag .cfgValid = s.flag .cfgValid := by
  obtain ⟨-, hcfg, hhalted, -⟩ := eachFlagHasItsWriters i s t h
  constructor <;> by_contra hne
  · obtain ⟨-, hderive, -⟩ := hhalted hne
    exact hi hderive
  · obtain ⟨-, hderive, -⟩ := hcfg hne
    exact hi hderive

/-- A command whose body repeated gives the same state gives the same state repeated. -/
theorem configured_repeat {i : Instr} {body : State → State} (hi : i ≠ .derive) (h : exec i s = .next t)
    (hexec : ∀ u, exec i u = configured u (body u)) (hbody : body (body s) = body s) : exec i t = .next t := by
  obtain ⟨hhalted, hcfg⟩ := mode_flags_of_exec hi h
  rw [hexec, configured_eq] at h ⊢
  rw [hhalted, hcfg]
  cases h
  split_ifs with hrun hready
  · rfl
  · rw [hbody]
  · rw [raiseErr_raiseErr]

theorem frame_repeat (h : exec .frame s = .next t) : exec .frame t = .next t := by
  refine configured_repeat (by decide) h (fun _ => rfl) ?_
  by_cases hlen : 2 ^ s.cfg.lengthFieldBits ≤ s.payload.length
  · simp [hlen, raiseErr, raiseAt_raiseAt]
  · cases hcap : fits (s.cfg.lengthFieldBits + s.payload.length) s.caps.bits with
    | false => simp [hlen, hcap, raiseErr, raiseAt_raiseAt]
    | true => simp [hlen, hcap, succeed]

theorem pack_repeat (h : exec .pack s = .next t) : exec .pack t = .next t := by
  refine configured_repeat (by decide) h (fun _ => rfl) ?_
  cases hcap : fits (ceilDiv s.fbits.length s.geo.bitsPerSymbol) s.caps.syms with
  | false => simp [hcap, raiseErr, raiseAt_raiseAt]
  | true => simp [hcap, succeed]

theorem unpack_repeat (h : exec .unpack s = .next t) : exec .unpack t = .next t := by
  refine configured_repeat (by decide) h (fun _ => rfl) ?_
  cases hsyms : firstNotBelow (2 ^ s.geo.bitsPerSymbol) s.syms with
  | some k => simp [hsyms, raiseAt_raiseAt]
  | none =>
    cases hcap : fits s.arg0 s.caps.bits with
    | false => simp [hsyms, hcap, raiseErr, raiseAt_raiseAt]
    | true =>
      by_cases hlen : s.syms.length * s.geo.bitsPerSymbol < s.arg0
      · simp [hsyms, hcap, hlen, raiseErr, raiseAt, BitVec.or_assoc]
      · simp [hsyms, hcap, hlen, succeed]

theorem deframe_repeat (h : exec .deframe s = .next t) : exec .deframe t = .next t := by
  refine configured_repeat (by decide) h (fun _ => rfl) ?_
  cases hparse : parseFrame s.fbits s.cfg.lengthFieldBits with
  | ok p => simp [hparse, succeed]
  | error e => simp [hparse, raiseErr, raiseAt, BitVec.or_assoc]

theorem map_repeat {k : Nat} (h : exec (.map k) s = .next t) : exec (.map k) t = .next t := by
  refine configured_repeat (by simp) h (fun _ => rfl) ?_
  cases hsym : s.syms[k]? with
  | none => simp [hsym, raiseAt_raiseAt]
  | some x =>
    by_cases hx : 2 ^ s.geo.bitsPerSymbol ≤ x
    · simp [hsym, hx, raiseAt_raiseAt]
    · simp [hsym, hx, writeSv_eq_self, succeed_succeed]

theorem demod_repeat {k : Nat} (h : exec (.demod k) s = .next t) : exec (.demod k) t = .next t := by
  refine configured_repeat (by simp) h (fun _ => rfl) ?_
  cases hsync : s.flag .synced with
  | false => simp [hsync, raiseErr, flag_raiseAt, raiseAt_raiseAt]
  | true =>
    by_cases hinside : s.rxs.length < s.sync.dataStart + (k + 1) * s.geo.nSymbol
    · simp [hsync, hinside, flag_raiseAt, raiseAt_raiseAt]
    · cases hwindow : demodulate Config.num s.cfg s.geo (window s.rxs s.sync.dataStart s.geo.nSymbol k) with
      | ok v => simp [hsync, hinside, hwindow, writeSv_eq_self, succeed_succeed]
      | error e => simp [hsync, hinside, hwindow, flag_raiseAt, raiseAt_raiseAt, invalidateSv_eq_self]

theorem chirp_repeat (h : exec .chirp s = .next t) : exec .chirp t = .next t := by
  refine configured_repeat (by decide) h (fun _ => rfl) ?_
  cases hcap : fits s.geo.lPreamble s.caps.samples with
  | false => simp [hcap, raiseErr, raiseAt_raiseAt]
  | true => simp [hcap, writeTpl_eq_self, succeed_succeed]

theorem txpre_repeat (h : exec .txpre s = .next t) : exec .txpre t = .next t := by
  refine configured_repeat (by decide) h (fun _ => rfl) ?_
  cases htpl : s.flag .tplValid with
  | false => simp [htpl, raiseErr, flag_raiseAt, raiseAt_raiseAt]
  | true =>
    cases hcap : fits (s.geo.lPreamble + s.geo.gGuard) s.caps.samples with
    | false => simp [htpl, hcap, raiseErr, flag_raiseAt, raiseAt_raiseAt]
    | true => simp [htpl, hcap, succeed, flag_with_txs_result]

theorem detect_repeat (h : exec .detect s = .next t) : exec .detect t = .next t := by
  refine configured_repeat (by decide) h (fun _ => rfl) ?_
  cases htpl : s.flag .tplValid with
  | false => simp [htpl, raiseErr, flag_raiseAt, raiseAt_raiseAt]
  | true =>
    cases hdet : detect s.rxs s.tpl s.cfg.syncThreshold with
    | ok p => simp [htpl, hdet, setSync_eq_self, succeed_succeed]
    | error e => simp [htpl, hdet, raiseErr, flag_raiseAt, raiseAt_raiseAt, clearSync_eq_self]

theorem txframe_repeat (h : exec .txframe s = .next t) : exec .txframe t = .next t := by
  refine configured_repeat (by decide) h (fun _ => rfl) ?_
  by_cases hlen : 2 ^ s.cfg.lengthFieldBits ≤ s.payload.length
  · simp [hlen, raiseErr, raiseAt_raiseAt]
  by_cases hcap : fits (s.cfg.lengthFieldBits + s.payload.length) s.caps.bits = false ∨
      fits (ceilDiv (s.cfg.lengthFieldBits + s.payload.length) s.geo.bitsPerSymbol) s.caps.syms = false ∨
      fits (s.geo.lPreamble + s.geo.gGuard +
        ceilDiv (s.cfg.lengthFieldBits + s.payload.length) s.geo.bitsPerSymbol * s.geo.nSymbol) s.caps.samples = false
  · simp [hlen, hcap, raiseErr, raiseAt_raiseAt]
  · cases hlast : (frameSymbols s.cfg s.geo s.payload).getLast? with
    | none => simp [hlen, hcap, hlast, succeed, State.writeTpl, State.setFlag, BitVec.or_assoc]
    | some x => simp [hlen, hcap, hlast, succeed, State.writeTpl, State.writeSv, State.setFlag, BitVec.or_assoc]

theorem rxframe_repeat (h : exec .rxframe s = .next t) : exec .rxframe t = .next t := by
  refine configured_repeat (by decide) h (fun _ => rfl) ?_
  by_cases hcap : fits s.geo.lPreamble s.caps.samples = false ∨ fits (s.rxs.length / s.geo.nSymbol) s.caps.syms = false ∨
      fits (s.rxs.length / s.geo.nSymbol * s.geo.bitsPerSymbol) s.caps.bits = false
  · simp [hcap, raiseErr, raiseAt_raiseAt]
  · cases hrx : rxFrame Config.num s.cfg s.geo s.rxs with
    | ok k p ds symbols fbits payload last =>
      cases last <;>
        simp [hcap, hrx, writeTpl_eq_self, setSync_eq_self, writeFrame_eq_self, writeSv_eq_self, succeed_succeed]
    | syncError e =>
      simp [hcap, hrx, raiseErr, flag_raiseAt, raiseAt_raiseAt, writeTpl_eq_self, clearSync_eq_self, writeFrame_eq_self]
    | decodeError k p ds e index =>
      simp [hcap, hrx, flag_raiseAt, raiseAt_raiseAt, writeTpl_eq_self, setSync_eq_self, writeFrame_eq_self,
        invalidateSv_eq_self]

end Commands

/-- Settles O18: each command on the list, by its checks and by what each of its ends writes. -/
theorem replacingCommandsAreIdempotent : Obligations.ReplacingCommandsAreIdempotent := by
  intro i s t hi h
  cases i with
  | frame => exact frame_repeat h
  | pack => exact pack_repeat h
  | unpack => exact unpack_repeat h
  | deframe => exact deframe_repeat h
  | map k => exact map_repeat h
  | demod k => exact demod_repeat h
  | chirp => exact chirp_repeat h
  | txpre => exact txpre_repeat h
  | detect => exact detect_repeat h
  | txframe => exact txframe_repeat h
  | rxframe => exact rxframe_repeat h
  | nop | derive | clrerr | unmap | mod => simp at hi

end Sys2Proof.Proofs
end

section
/-! SUPPORT. The decoder and the encoder: a word decodes to the command its two fields name (rules R70, R72, R73). -/

namespace Sys2Proof.Proofs

open Sys2Proof.Machine Sys2Proof.Safety

/-- A command with no operand accepts the `imm` 0 alone. -/
theorem plainCommand_eq_ok (j : Instr) (imm : BitVec 24) (i : Instr) :
    plainCommand j imm = .ok i ↔ imm.toNat = 0 ∧ j = i := by
  have hzero : imm = 0 ↔ imm.toNat = 0 := BitVec.toNat_inj.symm
  rw [plainCommand, ← hzero]
  split_ifs with h
  · simp [h]
  · exact iff_of_false nofun fun hi => h hi.1

theorem fields_of_decode {c : Word} {i : Instr} (h : decode c = .ok i) :
    opField c = i.opcode ∧ (immField c).toNat = i.operand := by
  rw [← BitVec.toNat_inj]
  unfold decode at h
  split at h
  case h_17 => cases h
  case h_8 hop | h_11 hop => cases h; exact ⟨hop, rfl⟩
  all_goals
    next hop =>
    obtain ⟨himm, rfl⟩ := (plainCommand_eq_ok _ _ _).1 h
    exact ⟨hop, himm⟩

theorem decode_of_fields {c : Word} {i : Instr} (hop : opField c = i.opcode)
    (himm : (immField c).toNat = i.operand) : decode c = .ok i := by
  unfold decode
  rw [hop]
  cases i with
  | map k | demod k => exact congrArg _ (congrArg _ himm)
  | _ => exact (plainCommand_eq_ok _ _ _).2 ⟨himm, rfl⟩

/-- Settles O1: the word of a command holds its opcode and its operand, and these are what the decoder reads. -/
theorem decodeInvertsEncode : Obligations.DecodeInvertsEncode := by
  intro i h
  obtain ⟨hop, himm⟩ := Laws.EncodedFields.holds i h
  exact decode_of_fields hop himm

/-- Settles O2: a word is its two fields put together, and an `imm` is below 2^24. -/
theorem encodeInvertsDecode : Obligations.EncodeInvertsDecode := by
  intro c i h
  obtain ⟨hop, himm⟩ := fields_of_decode h
  constructor
  · rw [encode, ← hop, ← himm, BitVec.ofNat_toNat, BitVec.setWidth_eq, append_fields]
  · rw [Instr.wellFormed, ← himm]
    exact decide_eq_true (immField c).isLt

/-- Settles O4: the two fields of each word are the opcode and the operand of its command. -/
theorem tableWordsDecode : Obligations.TableWordsDecode :=
  ⟨decode_of_fields rfl rfl, decode_of_fields rfl rfl, decode_of_fields rfl rfl, decode_of_fields rfl rfl,
    decode_of_fields rfl rfl, decode_of_fields rfl rfl, decode_of_fields rfl rfl, decode_of_fields rfl rfl,
    decode_of_fields rfl rfl⟩

end Sys2Proof.Proofs
end

section
/-! SUPPORT. The layout of a transmission (rules R77 to R80, R187). -/

namespace Sys2Proof.Proofs

open Sys2Proof.Machine Sys2Proof.Safety

section Layout

variable {num : Numerics} {c : ConfigRegs} {g : Geometry}

theorem dataRegion_append (symbols rest : List Nat) :
    dataRegion num c g (symbols ++ rest) = dataRegion num c g symbols ++ dataRegion num c g rest :=
  List.flatMap_append

theorem dataRegion_cons (x : Nat) (rest : List Nat) :
    dataRegion num c g (x :: rest) = modulate num c g (toStates x g.statesPerBand c.bandCount) ++ dataRegion num c g rest :=
  List.flatMap_cons

theorem dataRegion_nil : dataRegion num c g [] = [] := List.flatMap_nil

/-- Window k of the data region is that of symbol k: k windows of N samples come before it. -/
theorem window_of_dataRegion {symbols : List Nat} {k x : Nat} (h : symbols[k]? = some x) :
    ((dataRegion num c g symbols).drop (k * g.nSymbol)).take g.nSymbol =
      modulate num c g (toStates x g.statesPerBand c.bandCount) := by
  obtain ⟨hk, rfl⟩ := List.getElem?_eq_some_iff.1 h
  have hbefore : (dataRegion num c g (symbols.take k)).length = k * g.nSymbol := by
    rw [length_dataRegion, List.length_take_of_le hk.le]
  have hsplit : dataRegion num c g symbols = dataRegion num c g (symbols.take k) ++
      (modulate num c g (toStates symbols[k] g.statesPerBand c.bandCount) ++ dataRegion num c g (symbols.drop (k + 1))) := by
    rw [← dataRegion_cons, List.getElem_cons_drop, ← dataRegion_append, List.take_append_drop]
  rw [hsplit, List.drop_left' hbefore, List.take_left' (length_modulate _ _ _ _)]

end Layout

/-- Settles O48: the three parts have L, G and K·N samples, so each starts where those before it end. -/
theorem transmissionLayout : Obligations.TransmissionLayout := by
  intro num c g payload symbols tx
  have htx : tx = chirp num c g ++ (silence g.gGuard ++ dataRegion num c g symbols) := List.append_assoc _ _ _
  have hgap : tx.drop g.lPreamble = silence g.gGuard ++ dataRegion num c g symbols := by
    rw [htx, List.drop_left' (length_chirp num c g)]
  refine ⟨?_, ?_, ?_, fun k x hx => ?_⟩
  · simp only [htx, List.length_append, length_chirp, length_silence, length_dataRegion, Nat.add_assoc]
  · rw [htx, List.take_left' (length_chirp num c g)]
  · rw [hgap, List.take_left' (length_silence _)]
    rfl
  · rw [Nat.add_assoc, ← List.drop_drop, hgap, ← List.drop_drop, List.drop_left' (length_silence _),
      window_of_dataRegion hx]

end Sys2Proof.Proofs
end

section
/-! SUPPORT. Commands run one after the other (rule R60), and the transmitter's commands when they succeed (rules R112, R114,
R129, R143, R169, R171). -/

namespace Sys2Proof.Proofs

open Sys2Proof.Machine Sys2Proof.Safety

/-! ### Runs of commands (rule R60) -/

theorem runCommands_cons {i : Instr} {s u : State} (h : exec i s = .next u) (is : List Instr) :
    runCommands (i :: is) s = runCommands is u := by
  simp only [runCommands, h]

theorem runCommands_append {is : List Instr} {s u : State} (h : runCommands is s = .next u) (js : List Instr) :
    runCommands (is ++ js) s = runCommands js u := by
  induction is generalizing s with
  | nil => cases h; rfl
  | cons i is ih =>
    obtain ⟨v, hv⟩ := exists_exec_eq_next i s
    rw [runCommands_cons hv] at h
    rw [List.cons_append, runCommands_cons hv, ih h]

/-! ### The commands of the transmitter when they succeed -/

section Successes

variable {s : State} (hrun : s.flag .halted = false) (hcfg : s.flag .cfgValid = true)
include hrun hcfg

theorem execFrame_of_fits (hlen : s.payload.length < 2 ^ s.cfg.lengthFieldBits)
    (hcap : fits (s.cfg.lengthFieldBits + s.payload.length) s.caps.bits = true) :
    exec .frame s = .next (succeed { s with fbits := frameBits s.payload s.cfg.lengthFieldBits }) := by
  rw [exec, execFrame, configured_of_ready hrun hcfg, if_neg (not_le.2 hlen), if_neg (by simp [hcap])]

theorem execPack_of_fits (hcap : fits (ceilDiv s.fbits.length s.geo.bitsPerSymbol) s.caps.syms = true) :
    exec .pack s = .next (succeed { s with syms := pack s.fbits s.geo.bitsPerSymbol }) := by
  rw [exec, execPack, configured_of_ready hrun hcfg, if_neg (by simp [hcap])]

theorem execChirp_of_fits (hcap : fits s.geo.lPreamble s.caps.samples = true) :
    exec .chirp s = .next (succeed (s.writeTpl (chirp Config.num s.cfg s.geo))) := by
  rw [exec, execChirp, configured_of_ready hrun hcfg, if_neg (by simp [hcap])]

theorem execTxpre_of_fits (htpl : s.flag .tplValid = true)
    (hcap : fits (s.geo.lPreamble + s.geo.gGuard) s.caps.samples = true) :
    exec .txpre s = .next (succeed { s with txs := s.tpl ++ silence s.geo.gGuard }) := by
  rw [exec, execTxpre, configured_of_ready hrun hcfg, if_neg (by simp [htpl]), if_neg (by simp [hcap])]

theorem execMap_of_valid {k x : Nat} (hx : s.syms[k]? = some x) (hvalid : x < 2 ^ s.geo.bitsPerSymbol) :
    exec (.map k) s = .next (succeed (s.writeSv (toStates x s.geo.statesPerBand s.cfg.bandCount))) := by
  rw [exec, execMap, configured_of_ready hrun hcfg, hx]
  simp only [if_neg (not_le.2 hvalid)]

theorem execMod_of_fits {v : BandVector} (hv : s.svValue = some v) (hdigits : ∀ d ∈ v, d < s.geo.statesPerBand)
    (hcap : fits (s.txs.length + s.geo.nSymbol) s.caps.samples = true) :
    exec .mod s = .next (succeed { s with txs := s.txs ++ modulate Config.num s.cfg s.geo v }) := by
  rw [exec, execMod, configured_of_ready hrun hcfg, hv]
  simp [(firstNotBelow_eq_none _ _).2 hdigits, hcap]

end Successes

end Sys2Proof.Proofs
end

section
/-! SUPPORT. `TXFRAME` as the primitive commands (rule R186): the states both go through, named. -/

namespace Sys2Proof.Proofs

open Sys2Proof.Machine Sys2Proof.Safety

/-! ### What a transmission has written -/

/-- What `TXFRAME` has checked when it succeeds (rule R186). -/
structure TxframeAccepted (s : State) : Prop where
  length : s.payload.length < 2 ^ s.cfg.lengthFieldBits
  bits : fits (s.cfg.lengthFieldBits + s.payload.length) s.caps.bits = true
  syms : fits (ceilDiv (s.cfg.lengthFieldBits + s.payload.length) s.geo.bitsPerSymbol) s.caps.syms = true
  samples : fits (s.geo.lPreamble + s.geo.gGuard +
    ceilDiv (s.cfg.lengthFieldBits + s.payload.length) s.geo.bitsPerSymbol * s.geo.nSymbol) s.caps.samples = true

/-- After `FRAME; PACK`, the result not recorded yet: the frame and its symbols. -/
def framed (s : State) : State :=
  { s with fbits := frameBits s.payload s.cfg.lengthFieldBits, syms := frameSymbols s.cfg s.geo s.payload }

@[simp] theorem framed_cfg (s : State) : (framed s).cfg = s.cfg := rfl
@[simp] theorem framed_geo (s : State) : (framed s).geo = s.geo := rfl
@[simp] theorem framed_caps (s : State) : (framed s).caps = s.caps := rfl
@[simp] theorem flag_framed (s : State) (f : Flag) : (framed s).flag f = s.flag f := rfl

/-- After `FRAME; PACK; CHIRP; TXPRE`, the result not recorded yet: the frame, the template, and a waveform of the preamble
and the guard gap. -/
def preambled (s : State) : State :=
  State.writeTpl { framed s with txs := chirp Config.num s.cfg s.geo ++ silence s.geo.gGuard }
    (chirp Config.num s.cfg s.geo)

@[simp] theorem preambled_geo (s : State) : (preambled s).geo = s.geo := rfl
@[simp] theorem preambled_syms (s : State) : (preambled s).syms = frameSymbols s.cfg s.geo s.payload := rfl
@[simp] theorem preambled_caps (s : State) : (preambled s).caps = s.caps := rfl
@[simp] theorem preambled_txs (s : State) :
    (preambled s).txs = chirp Config.num s.cfg s.geo ++ silence s.geo.gGuard := rfl
@[simp] theorem flag_preambled (s : State) (f : Flag) :
    (preambled s).flag f = (decide (Flag.tplValid = f) || s.flag f) := flag_writeTpl _ _ f

/-- After `MAP; MOD` of the symbols `sent` in turn, the result not recorded yet: their windows appended to the waveform,
and the last one's vector in `SV`. -/
def transmitted (s : State) (sent : List Nat) : State :=
  State.writeLastSv { s with txs := s.txs ++ dataRegion Config.num s.cfg s.geo sent }
    (sent.getLast?.map fun x => toStates x s.geo.statesPerBand s.cfg.bandCount)

/-- A second vector written to `SV` replaces the first. -/
theorem writeSv_writeLastSv (s : State) (w : Option BandVector) (v : BandVector) :
    (s.writeLastSv w).writeSv v = s.writeSv v := by
  cases w with
  | none => rfl
  | some w => simp [State.writeSv, State.setFlag, BitVec.or_assoc]

/-! What the writing of a transmission leaves unchanged, and its flags. -/

section Fields

variable (s : State) (sent : List Nat)

@[simp] theorem transmitted_cfg : (transmitted s sent).cfg = s.cfg := writeLastSv_cfg _ _
@[simp] theorem transmitted_geo : (transmitted s sent).geo = s.geo := writeLastSv_geo _ _
@[simp] theorem transmitted_syms : (transmitted s sent).syms = s.syms := writeLastSv_syms _ _
@[simp] theorem transmitted_caps : (transmitted s sent).caps = s.caps := writeLastSv_caps _ _
@[simp] theorem transmitted_txs :
    (transmitted s sent).txs = s.txs ++ dataRegion Config.num s.cfg s.geo sent := writeLastSv_txs _ _
@[simp] theorem flag_transmitted (f : Flag) :
    (transmitted s sent).flag f = (decide (sent ≠ [] ∧ Flag.svValid = f) || s.flag f) := by
  rw [transmitted, flag_writeLastSv]
  simp

end Fields

theorem transmitted_append (s : State) (sent : List Nat) (x : Nat) :
    let u := transmitted s sent
    let v := toStates x u.geo.statesPerBand u.cfg.bandCount
    transmitted s (sent ++ [x]) = { u.writeSv v with txs := u.txs ++ modulate Config.num u.cfg u.geo v } := by
  simp only [transmitted_cfg, transmitted_geo, transmitted_txs, List.append_assoc]
  rw [transmitted, transmitted, writeSv_writeLastSv, dataRegion_append, List.getLast?_concat]
  simp only [dataRegion_cons, dataRegion_nil, List.append_nil]
  rfl

/-! ### `TXFRAME` -/

theorem execTxframe_of_accepted {s : State} (hrun : s.flag .halted = false) (hcfg : s.flag .cfgValid = true)
    (h : TxframeAccepted s) :
    exec .txframe s = .next (succeed (transmitted (preambled s) (frameSymbols s.cfg s.geo s.payload))) := by
  rw [exec, execTxframe, configured_of_ready hrun hcfg, if_neg (not_le.2 h.length),
    if_neg (by simp [h.bits, h.syms, h.samples])]
  rfl

theorem txframeAccepted_of_exec {s t : State} (hrun : s.flag .halted = false) (h : exec .txframe s = .next t)
    (hok : t.result = 0) : s.flag .cfgValid = true ∧ TxframeAccepted s := by
  have hrefused {e : ResultCode} {info : BitVec 8} (he : e ≠ .ok) (ht : (.next (raiseErr e info s) : Answer) = .next t) :
      False := by
    cases ht
    exact he (resultWord_eq_zero hok)
  cases hcfg : s.flag .cfgValid with
  | false => exact (hrefused (by decide) ((configured_of_unconfigured hrun hcfg _).symm.trans h)).elim
  | true =>
    rw [exec, execTxframe, configured_of_ready hrun hcfg] at h
    simp only at h
    split_ifs at h with hlen hcap
    · exact (hrefused (by decide) h).elim
    · exact (hrefused (by decide) h).elim
    · simp only [not_or, Bool.not_eq_false] at hcap
      obtain ⟨hbits, hsyms, hsamples⟩ := hcap
      exact ⟨rfl, not_le.1 hlen, hbits, hsyms, hsamples⟩

/-! ### The preamble, then symbol by symbol -/

theorem run_preamble {s : State} (hrun : s.flag .halted = false) (hcfg : s.flag .cfgValid = true)
    (h : TxframeAccepted s) :
    runCommands [.frame, .pack, .chirp, .txpre] s = .next (succeed (preambled s)) := by
  have hchirp : fits s.geo.lPreamble s.caps.samples = true := fits_of_le h.samples (by omega)
  have hgap : fits (s.geo.lPreamble + s.geo.gGuard) s.caps.samples = true := fits_of_le h.samples (by omega)
  calc runCommands [.frame, .pack, .chirp, .txpre] s
    _ = runCommands [.pack, .chirp, .txpre] (succeed { s with fbits := frameBits s.payload s.cfg.lengthFieldBits }) :=
      runCommands_cons (execFrame_of_fits hrun hcfg h.length h.bits) _
    _ = runCommands [.chirp, .txpre] (succeed (framed s)) :=
      runCommands_cons (execPack_of_fits (by simpa using hrun) (by simpa using hcfg) (by simpa using h.syms)) _
    _ = runCommands [.txpre] (succeed ((framed s).writeTpl (chirp Config.num s.cfg s.geo))) :=
      runCommands_cons (execChirp_of_fits (by simpa using hrun) (by simpa using hcfg) (by simpa using hchirp)) _
    _ = .next (succeed (preambled s)) :=
      runCommands_cons (execTxpre_of_fits (by simpa using hrun) (by simpa using hcfg) (by simp) (by simpa using hgap)) _

theorem pack_lt {bits : List Bit} {w x : Nat} (h : x ∈ pack bits w) : x < 2 ^ w := by
  obtain ⟨k, -, rfl⟩ := List.mem_map.1 h
  refine (beValue_lt _).trans_le (Nat.pow_le_pow_right (by decide) ?_)
  rw [length_slice, Nat.add_mul, one_mul, Nat.add_sub_cancel_left]
  exact min_le_left _ _

theorem toStates_lt {x S B d : Nat} (hS : 0 < S) (h : d ∈ toStates x S B) : d < S := by
  obtain ⟨b, -, rfl⟩ := List.mem_map.1 h
  exact Nat.mod_lt _ hS

section Symbols

variable {u : State} (hrun : u.flag .halted = false) (hcfg : u.flag .cfgValid = true) (hS : 0 < u.geo.statesPerBand)
include hrun hcfg hS

/-- `MAP k; MOD` appends the window of symbol k and leaves its vector in `SV`. -/
theorem run_symbol {sent : List Nat} {k x : Nat} (hx : u.syms[k]? = some x) (hvalid : x < 2 ^ u.geo.bitsPerSymbol)
    (hcap : fits (u.txs.length + (sent.length + 1) * u.geo.nSymbol) u.caps.samples = true) :
    runCommands [.map k, .mod] (succeed (transmitted u sent)) = .next (succeed (transmitted u (sent ++ [x]))) := by
  have hrun' : (transmitted u sent).flag .halted = false := by simpa using hrun
  have hcfg' : (transmitted u sent).flag .cfgValid = true := by simpa using hcfg
  let v := toStates x (transmitted u sent).geo.statesPerBand (transmitted u sent).cfg.bandCount
  have hmap : exec (.map k) (succeed (transmitted u sent)) = .next (succeed ((transmitted u sent).writeSv v)) :=
    execMap_of_valid (by simpa using hrun') (by simpa using hcfg') (by simpa using hx) (by simpa using hvalid)
  have hv : (succeed ((transmitted u sent).writeSv v)).svValue = some v := (svValue_eq_some _ _).2 (by simp)
  have hdigits : ∀ d ∈ v, d < (transmitted u sent).geo.statesPerBand := fun d => toStates_lt (by simpa using hS)
  have hmod : exec .mod (succeed ((transmitted u sent).writeSv v)) = .next (succeed (transmitted u (sent ++ [x]))) := by
    rw [transmitted_append]
    refine execMod_of_fits (by simpa using hrun') (by simpa using hcfg') hv hdigits ?_
    simpa [length_dataRegion, Nat.add_mul, Nat.add_assoc] using hcap
  rw [runCommands_cons hmap, runCommands_cons hmod, runCommands]

theorem run_symbols (hvalid : ∀ x ∈ u.syms, x < 2 ^ u.geo.bitsPerSymbol)
    (hcap : fits (u.txs.length + u.syms.length * u.geo.nSymbol) u.caps.samples = true) {k : Nat}
    (hk : k ≤ u.syms.length) :
    runCommands ((List.range k).flatMap fun i => [.map i, .mod]) (succeed u) =
      .next (succeed (transmitted u (u.syms.take k))) := by
  induction k with
  | zero => simp [runCommands, transmitted, dataRegion]
  | succ k ih =>
    rw [List.range_succ, List.flatMap_append, runCommands_append (ih (by omega)), List.flatMap_singleton,
      List.take_succ_eq_append_getElem hk]
    refine run_symbol hrun hcfg hS (List.getElem?_eq_getElem hk) (hvalid _ (List.getElem_mem hk)) (fits_of_le hcap ?_)
    rw [List.length_take_of_le (by omega)]
    gcongr

end Symbols

/-- Settles O50: the accepted `TXFRAME` and the commands, symbol by symbol, write the same. -/
theorem txframeEqualsThePrimitiveCommands : Obligations.TxframeEqualsThePrimitiveCommands := by
  intro s t hinv hrun h hok
  obtain ⟨hcfg, haccepted⟩ := txframeAccepted_of_exec hrun h hok
  rw [execTxframe_of_accepted hrun hcfg haccepted] at h
  cases h
  obtain ⟨hderive, -⟩ := hinv.geometry.configured hcfg
  obtain ⟨hS, -⟩ := derivedGeometryMeetsTheInvariants _ _ _ hderive
  have hsymbols := run_symbols (u := preambled s) (by simpa using hrun) (by simpa using hcfg) (zero_lt_two.trans_le hS)
    (fun _ => pack_lt) (by simpa [frameSymbols] using haccepted.samples) le_rfl
  rw [runCommands_append (run_preamble hrun hcfg haccepted)]
  simpa using hsymbols

end Sys2Proof.Proofs
end

section
/-! SUPPORT. `NOP`, `CLRERR`, and `DERIVE` on an infeasible configuration (rules R91, R92, R94, R96, R97). -/

namespace Sys2Proof.Proofs

open Sys2Proof.Machine Sys2Proof.Safety

/-- Settles O22: each is its update of the result registers and a success. -/
theorem nopAndClrerrTouchOnlyTheResults : Obligations.NopAndClrerrTouchOnlyTheResults := fun _ hrun =>
  ⟨unlessHalted_of_running hrun _, unlessHalted_of_running hrun _⟩

/-- The constants and counts that steps 1 and 2 of rule R92 reject, the counts as the rounded products of rule R28. -/
def Degenerate (c : ConfigRegs) : Prop :=
  c.sampleRate ≤ 0 ∨ c.symbolDuration ≤ 0 ∨ c.bandCount = 0 ∨ c.step ≤ 0 ∨ c.preDuration ≤ 0 ∨
    roundHE (c.sampleRate * c.symbolDuration) = 0 ∨ roundHE (c.sampleRate * c.preDuration) = 0

theorem sampleCount_eq_zero {a b : Rat} (ha : 0 < a) (hb : 0 < b) : sampleCount a b = 0 ↔ roundHE (a * b) = 0 := by
  rw [← sampleCount_eq ha hb, Int.natCast_eq_zero]

/-- The two tests of `derive` for degenerate values, a count being tested once its factors are known to be positive. -/
theorem degenerate_iff (c : ConfigRegs) :
    Degenerate c ↔
      (c.sampleRate ≤ 0 ∨ c.symbolDuration ≤ 0 ∨ c.bandCount = 0 ∨ c.step ≤ 0 ∨ c.preDuration ≤ 0) ∨
      (sampleCount c.sampleRate c.symbolDuration = 0 ∨ sampleCount c.sampleRate c.preDuration = 0) := by
  by_cases hconst : c.sampleRate ≤ 0 ∨ c.symbolDuration ≤ 0 ∨ c.bandCount = 0 ∨ c.step ≤ 0 ∨ c.preDuration ≤ 0
  · unfold Degenerate
    tauto
  · have hpos := hconst
    simp only [not_or, not_le] at hpos
    obtain ⟨hrate, hsymbol, -, -, hpre⟩ := hpos
    rw [sampleCount_eq_zero hrate hsymbol, sampleCount_eq_zero hrate hpre]
    unfold Degenerate
    tauto

section Causes
variable {c : ConfigRegs} {cap : Capacity}

theorem derive_of_degenerate (h : Degenerate c) : derive c cap = .error .degenerate := by
  unfold derive
  rcases (degenerate_iff c).1 h with hconst | hcount
  · rw [if_pos hconst]
  · rw [if_pos hcount, ite_self]

/-- Past the degenerate values, `derive` is its steps 3 to 6. -/
theorem derive_of_not_degenerate (h : ¬Degenerate c) :
    derive c cap =
      if c.step < 1 / c.symbolDuration then .error .unresolvable
      else if c.statesPerBand < 2 then .error .noAlphabet
      else if fits c.bandCount cap = false then .error .tooManyBands
      else .ok c.geometry := by
  obtain ⟨hconst, hcount⟩ := not_or.1 (mt (degenerate_iff c).2 h)
  rw [derive, if_neg hconst, if_neg hcount]

end Causes

/-- In mode UNCONFIGURED, a configuration that `derive` rejects halts the block with the cause's number (rule R96). -/
theorem execDerive_of_error {s : State} (hrun : s.flag .halted = false) (hc : s.flag .cfgValid = false) {e : ConfigCause}
    (hd : derive s.cfg s.caps.bands = .error e) :
    execDerive s = .next { failed s 1 e.info.toNat 0 with status := s.status ||| 0x02#32 } := by
  rw [execDerive, unlessHalted_of_running hrun, hc, if_neg Bool.false_ne_true, hd]
  exact congrArg _ (raiseAt_configError e.info 0 s)

/-- Settles O24: the causes are the tests of `derive`, in its order. -/
theorem deriveHaltsOnTheFirstCause : Obligations.DeriveHaltsOnTheFirstCause := by
  intro s hrun hc c degenerate unresolvable noAlphabet tooMany halt
  refine ⟨fun hdeg => ?degenerate, fun hdeg hres => ?unresolvable, fun hdeg hres hS => ?noAlphabet,
    fun hdeg hres hS hcap => ?tooManyBands⟩
  case degenerate => exact execDerive_of_error hrun hc (derive_of_degenerate hdeg)
  case unresolvable =>
    exact execDerive_of_error hrun hc ((derive_of_not_degenerate hdeg).trans (if_pos hres))
  case noAlphabet =>
    exact execDerive_of_error hrun hc
      ((derive_of_not_degenerate hdeg).trans ((if_neg hres).trans (if_pos hS)))
  case tooManyBands =>
    exact execDerive_of_error hrun hc
      ((derive_of_not_degenerate hdeg).trans ((if_neg hres).trans ((if_neg hS).trans (if_pos hcap))))

end Sys2Proof.Proofs
end

section
/-! SUPPORT. The Bit/Symbol Packer: the symbols of a bit sequence are the values of the chunks of its zero-padded form,
and unpacking them joins the chunks again (rules R106 to R108). -/

namespace Sys2Proof.Proofs

open Sys2Proof.Machine Sys2Proof.Safety

/-! ### Whole chunks -/

theorem le_ceilDiv_mul (n : Nat) {w : Nat} (hw : 1 ≤ w) : n ≤ ceilDiv n w * w := by
  have hdiv := Nat.div_add_mod' (n + w - 1) w
  have hmod := Nat.mod_lt (n + w - 1) hw
  rw [ceilDiv]
  omega

theorem ceilDiv_mul_self (n : Nat) {w : Nat} (hw : 1 ≤ w) : ceilDiv (n * w) w = n := by
  rw [ceilDiv, Nat.add_sub_assoc hw, Nat.mul_comm, Nat.mul_add_div hw, Nat.div_eq_of_lt (by omega), Nat.add_zero]

/-- The k-th of the chunks of width w. -/
theorem slice_chunk {α : Type} (l : List α) (k w : Nat) : slice l (k * w) ((k + 1) * w) = (l.drop (k * w)).take w := by
  rw [slice, Nat.add_mul, one_mul, Nat.add_sub_cancel_left]

theorem length_slice_chunk {α : Type} {l : List α} {k w : Nat} (h : (k + 1) * w ≤ l.length) :
    (slice l (k * w) ((k + 1) * w)).length = w := by
  rw [Nat.add_mul, one_mul] at h
  rw [slice_chunk, List.length_take, List.length_drop]
  omega

/-- The first m chunks joined are the first m · w elements. -/
theorem flatMap_range_slice {α : Type} (l : List α) (w m : Nat) :
    ((List.range m).flatMap fun k => slice l (k * w) ((k + 1) * w)) = l.take (m * w) := by
  induction m with
  | zero => simp
  | succ m ih =>
    rw [List.range_succ, List.flatMap_append, ih, List.flatMap_singleton, slice_chunk, Nat.add_mul, one_mul,
      List.take_add]

/-- The k-th chunk of pieces of width w joined is the k-th piece. -/
theorem slice_flatMap {α β : Type} {f : α → List β} {w : Nat} (hf : ∀ x, (f x).length = w) {xs : List α} {k : Nat}
    {x : α} (hx : xs[k]? = some x) : slice (xs.flatMap f) (k * w) ((k + 1) * w) = f x := by
  induction xs generalizing k with
  | nil => simp at hx
  | cons y ys ih =>
    rw [slice_chunk, List.flatMap_cons]
    cases k with
    | zero =>
      cases hx
      rw [zero_mul, List.drop_zero, List.take_left' (hf _)]
    | succ k =>
      rw [Nat.add_mul, one_mul, Nat.add_comm, ← List.drop_drop, List.drop_left' (hf y), ← slice_chunk]
      exact ih (by simpa using hx)

/-! ### `pack` (rule R106) -/

/-- The bits that `pack` cuts: the sequence with zero bits up to a whole number of chunks. -/
def padded (bits : List Bit) (w : Nat) : List Bit :=
  bits ++ List.replicate (ceilDiv bits.length w * w - bits.length) false

theorem pack_eq_map_padded (bits : List Bit) (w : Nat) :
    pack bits w =
      (List.range (ceilDiv bits.length w)).map fun k => beValue (slice (padded bits w) (k * w) ((k + 1) * w)) := rfl

theorem length_padded (bits : List Bit) {w : Nat} (hw : 1 ≤ w) :
    (padded bits w).length = ceilDiv bits.length w * w := by
  rw [padded, List.length_append, List.length_replicate, Nat.add_sub_cancel' (le_ceilDiv_mul _ hw)]

theorem getD_padded (bits : List Bit) (w i : Nat) : (padded bits w).getD i false = bits.getD i false := by
  rw [padded]
  rcases Nat.lt_or_ge i bits.length with hi | hi
  · rw [List.getD_append _ _ _ _ hi]
  · rw [List.getD_append_right _ _ _ _ hi, List.getD_eq_default _ _ hi]
    rw [List.getD_eq_getElem?_getD, List.getElem?_replicate]
    split_ifs <;> rfl

/-- Each chunk that `pack` cuts is whole. -/
theorem length_chunk_padded {bits : List Bit} {w k : Nat} (hw : 1 ≤ w) (hk : k < ceilDiv bits.length w) :
    (slice (padded bits w) (k * w) ((k + 1) * w)).length = w :=
  length_slice_chunk (by rw [length_padded bits hw]; exact Nat.mul_le_mul_right w hk)

theorem getElem?_pack {bits : List Bit} {w k x : Nat} (h : (pack bits w)[k]? = some x) :
    k < ceilDiv bits.length w ∧ x = beValue (slice (padded bits w) (k * w) ((k + 1) * w)) := by
  rw [pack_eq_map_padded, List.getElem?_map, Option.map_eq_some_iff] at h
  obtain ⟨j, hj, rfl⟩ := h
  obtain ⟨hk, rfl⟩ := List.getElem?_eq_some_iff.1 hj
  rw [List.length_range] at hk
  exact ⟨hk, by rw [List.getElem_range]⟩

/-- Bit j of a value, the most significant first, is element j of its bits. -/
theorem testBit_beValue {b : List Bool} {w j : Nat} (hlen : b.length = w) (hj : j < w) :
    (beValue b).testBit (w - 1 - j) = b.getD j false := by
  subst hlen
  have hget : (beBits (beValue b) b.length).getD j false = b.getD j false := by rw [beBits_beValue]
  simpa [beBits, hj] using hget

/-- Settles O28: symbol k is the value of chunk k of the padded bits, which is w bits. -/
theorem packChunksBigEndian : Obligations.PackChunksBigEndian := by
  intro bits w hw
  refine ⟨length_pack bits w, fun k x hx => ⟨pack_lt (List.mem_of_getElem? hx), fun j hj => ?_⟩⟩
  obtain ⟨hk, rfl⟩ := getElem?_pack hx
  have hlen := length_chunk_padded hw hk
  calc (beValue (slice (padded bits w) (k * w) ((k + 1) * w))).testBit (w - 1 - j)
    _ = (slice (padded bits w) (k * w) ((k + 1) * w)).getD j false := testBit_beValue hlen hj
    _ = (padded bits w).getD (k * w + j) false := by simp [slice_chunk, List.getD_eq_getElem?_getD, hj]
    _ = bits.getD (k * w + j) false := getD_padded bits w _

/-! ### `unpack` and `pack` (rule R108) -/

/-- Unpacking packed bits gives the padded sequence, up to the count. -/
theorem unpack_pack (bits : List Bit) {w : Nat} (hw : 1 ≤ w) (total : Nat) :
    unpack (pack bits w) w total = (padded bits w).take total := by
  have hchunks : ((pack bits w).flatMap fun x => beBits x w) = padded bits w := by
    calc ((pack bits w).flatMap fun x => beBits x w)
      _ = (List.range (ceilDiv bits.length w)).flatMap fun k => slice (padded bits w) (k * w) ((k + 1) * w) := by
        rw [pack_eq_map_padded, List.flatMap_map]
        refine List.flatMap_congr fun k hk => ?_
        have hlen := length_chunk_padded hw (List.mem_range.1 hk)
        exact (congrArg _ hlen.symm).trans (beBits_beValue _)
      _ = padded bits w := by rw [flatMap_range_slice, List.take_of_length_le (length_padded bits hw).le]
  rw [unpack, hchunks]

theorem unpack_pack_length (bits : List Bit) {w : Nat} (hw : 1 ≤ w) : unpack (pack bits w) w bits.length = bits := by
  rw [unpack_pack bits hw, padded, List.take_left]

/-- Unpacking all of the symbols' bits gives each symbol's bits in turn. -/
theorem unpack_all (symbols : List Nat) (w : Nat) :
    unpack symbols w (symbols.length * w) = symbols.flatMap fun x => beBits x w :=
  List.take_of_length_le (by simp [List.length_flatMap])

/-- Packing the bits of symbols below 2^w gives the symbols back. -/
theorem pack_flatMap_beBits {symbols : List Nat} {w : Nat} (hw : 1 ≤ w) (hsymbols : ∀ x ∈ symbols, x < 2 ^ w) :
    pack (symbols.flatMap fun x => beBits x w) w = symbols := by
  have hlen : (symbols.flatMap fun x => beBits x w).length = symbols.length * w := by simp [List.length_flatMap]
  have hcount : (pack (symbols.flatMap fun x => beBits x w) w).length = symbols.length := by
    rw [length_pack, hlen, ceilDiv_mul_self _ hw]
  have hpad : padded (symbols.flatMap fun x => beBits x w) w = symbols.flatMap fun x => beBits x w := by
    simp [padded, hlen, ceilDiv_mul_self _ hw]
  refine List.ext_getElem hcount fun k hk hk' => ?_
  obtain ⟨-, hx⟩ := getElem?_pack (List.getElem?_eq_getElem hk)
  rw [hx, hpad, slice_flatMap (fun x => length_beBits x w) (List.getElem?_eq_getElem hk'), beValue_beBits,
    Nat.mod_eq_of_lt (hsymbols _ (List.getElem_mem hk'))]

/-- Settles O29: the first bits of the padded sequence are the bits, and each symbol is the value of its w bits. -/
theorem unpackInvertsPack : Obligations.UnpackInvertsPack := by
  refine ⟨fun bits w hw => unpack_pack_length bits hw, fun symbols w hw hsymbols => ?_⟩
  rw [unpack_all, pack_flatMap_beBits hw hsymbols]

end Sys2Proof.Proofs
end

section
/-! SUPPORT. The frame (rules R110, R111, R113). -/

namespace Sys2Proof.Proofs

open Sys2Proof.Machine Sys2Proof.Safety

/-- `parse_frame` by the value n of the length field: the n bits after the field if they are there, else one error
(rule R111). -/
theorem parseFrame_eq (fbits : List Bit) (lfb : Nat) :
    parseFrame fbits lfb =
      if lfb + beValue (fbits.take lfb) ≤ fbits.length then .ok ((fbits.drop lfb).take (beValue (fbits.take lfb)))
      else .error .length := by
  have hfield : slice fbits 0 lfb = fbits.take lfb := rfl
  rw [parseFrame, hfield, slice, Nat.add_sub_cancel_left]
  by_cases hlong : lfb + beValue (fbits.take lfb) ≤ fbits.length
  · rw [if_neg (by omega), if_neg (by omega), if_pos hlong]
  · rw [if_neg hlong, if_pos (not_le.1 hlong), ite_self]

/-- A frame parses to its payload, whatever bits follow it. -/
theorem parseFrame_frameBits_append {payload : List Bit} {lfb : Nat} (h : payload.length < 2 ^ lfb) (rest : List Bit) :
    parseFrame (frameBits payload lfb ++ rest) lfb = .ok payload := by
  have hlen : (beBits payload.length lfb).length = lfb := length_beBits _ _
  have hfield : (frameBits payload lfb ++ rest).take lfb = beBits payload.length lfb := by
    rw [frameBits, List.append_assoc, List.take_left' hlen]
  have hbody : (frameBits payload lfb ++ rest).drop lfb = payload ++ rest := by
    rw [frameBits, List.append_assoc, List.drop_left' hlen]
  rw [parseFrame_eq, hfield, hbody, beValue_beBits, Nat.mod_eq_of_lt h, List.take_left, if_pos (by simp)]

/-- Settles O30: unpacked in full, the symbols give the frame and its padding; to its count, the frame alone. -/
theorem frameRoundTrip : Obligations.FrameRoundTrip := by
  intro payload lfb w hlen hw symbols
  constructor
  · have hall : unpack symbols w (symbols.length * w) = padded (frameBits payload lfb) w := by
      rw [unpack_pack _ hw, length_pack, ← length_padded _ hw, List.take_length]
    rw [hall, padded, parseFrame_frameBits_append hlen]
  · rw [← length_frameBits payload lfb, unpack_pack_length _ hw]
    simpa using parseFrame_frameBits_append hlen []

end Sys2Proof.Proofs
end

section
/-! SUPPORT. `FRAME`, `PACK`, `UNPACK` and `DEFRAME` on operands in range (rules R112, R114 to R116). -/

namespace Sys2Proof.Proofs

open Sys2Proof.Machine Sys2Proof.Safety

/-- Settles O31: the two commands when their checks have passed. -/
theorem frameAndPackWriteTheFrame : Obligations.FrameAndPackWriteTheFrame :=
  fun _ hrun hcfg => ⟨execFrame_of_fits hrun hcfg, execPack_of_fits hrun hcfg⟩

/-- The failure of a frame that implies more bits than there are, in the registers' layout (rules R111, R197, R205). -/
theorem raiseErr_length (s : State) : raiseErr .decodeError DecodeCause.length.info s = failed s 3 2 0 :=
  raiseAt_eq_failed (by decide) _ 0 s

section Receiver

variable {s : State} (hrun : s.flag .halted = false) (hcfg : s.flag .cfgValid = true)
include hrun hcfg

/-- With valid symbols and `ARG0` within capacity, `UNPACK` asks only whether so many bits were received (rule R115). -/
theorem execUnpack_of_fits (hsyms : ∀ x ∈ s.syms, x < 2 ^ s.geo.bitsPerSymbol) (hcap : fits s.arg0 s.caps.bits = true) :
    exec .unpack s = .next
      (if s.syms.length * s.geo.bitsPerSymbol < s.arg0 then failed { s with fbits := [] } 3 2 0
      else succeed { s with fbits := unpack s.syms s.geo.bitsPerSymbol s.arg0 }) := by
  rw [exec, execUnpack, configured_of_ready hrun hcfg, (firstNotBelow_eq_none _ _).2 hsyms]
  simp only [hcap, Bool.true_eq_false, if_false, raiseErr_length]

theorem execDeframe_of_ok {p : List Bit} (h : parseFrame s.fbits s.cfg.lengthFieldBits = .ok p) :
    exec .deframe s = .next (succeed { s with payload := p }) := by
  rw [exec, execDeframe, configured_of_ready hrun hcfg, h]

theorem execDeframe_of_error (h : parseFrame s.fbits s.cfg.lengthFieldBits = .error .length) :
    exec .deframe s = .next (failed { s with payload := [] } 3 2 0) := by
  rw [exec, execDeframe, configured_of_ready hrun hcfg, h]
  exact congrArg _ (raiseErr_length _)

end Receiver

/-- Settles O32: the two answers of the one check left. -/
theorem unpackWritesTheFrameBits : Obligations.UnpackWritesTheFrameBits := by
  intro s hrun hcfg hsyms hcap
  rw [execUnpack_of_fits hrun hcfg hsyms hcap]
  refine ⟨fun hreceived => ?_, fun hshort => ?_⟩
  · rw [if_neg (not_lt.2 hreceived)]
    rfl
  · rw [if_pos hshort]
    rfl

/-- Settles O33: the two answers of `parse_frame`; a frame shorter than its field is shorter than field and payload. -/
theorem deframeWritesThePayload : Obligations.DeframeWritesThePayload := by
  intro s hrun hcfg lfb n
  refine ⟨fun hlong => ?_, fun hshort => ?_⟩
  · have hok : parseFrame s.fbits lfb = .ok ((s.fbits.drop lfb).take n) := (parseFrame_eq _ _).trans (if_pos hlong)
    exact execDeframe_of_ok hrun hcfg hok
  · have hlong : ¬lfb + n ≤ s.fbits.length := by omega
    exact execDeframe_of_error hrun hcfg ((parseFrame_eq _ _).trans (if_neg hlong))

end Sys2Proof.Proofs
end

section
/-! SUPPORT. Operands out of range (rules R112, R115, R129, R131, R143, R157, R186, R197): the commands that check an index
or a value refuse such an operand. -/

namespace Sys2Proof.Proofs

open Sys2Proof.Machine Sys2Proof.Safety

/-- An operand's refusal with its number and index, in the registers' layout (rule R205). -/
theorem raiseAt_operandError (info : BitVec 8) (index : Nat) (s : State) :
    raiseAt .operandError info index s = failed s 5 info.toNat index :=
  raiseAt_eq_failed (by decide) info index s

section OutOfRange

variable {s : State} (hrun : s.flag .halted = false) (hcfg : s.flag .cfgValid = true)
include hrun hcfg

theorem execMap_past_symbols {i : Nat} (hi : s.syms.length ≤ i) : exec (.map i) s = .next (failed s 5 1 i) := by
  rw [exec, execMap, configured_of_ready hrun hcfg, List.getElem?_eq_none hi]
  exact congrArg _ (raiseAt_operandError 1 i s)

theorem execMap_of_invalid {i x : Nat} (hx : s.syms[i]? = some x) (hinvalid : 2 ^ s.geo.bitsPerSymbol ≤ x) :
    exec (.map i) s = .next (failed s 5 2 i) := by
  rw [exec, execMap, configured_of_ready hrun hcfg, hx]
  exact congrArg _ ((if_pos hinvalid).trans (raiseAt_operandError 2 i s))

theorem execDemod_past_capture {i : Nat} (hsync : s.flag .synced = true)
    (hi : s.rxs.length < s.sync.dataStart + (i + 1) * s.geo.nSymbol) : exec (.demod i) s = .next (failed s 5 1 i) := by
  rw [exec, execDemod, configured_of_ready hrun hcfg, if_neg (by simp [hsync]), if_pos hi]
  exact congrArg _ (raiseAt_operandError 1 i s)

theorem execFrame_of_long_payload (hlen : 2 ^ s.cfg.lengthFieldBits ≤ s.payload.length) :
    exec .frame s = .next (failed s 5 2 0) := by
  rw [exec, execFrame, configured_of_ready hrun hcfg, if_pos hlen]
  exact congrArg _ (raiseAt_operandError 2 0 s)

theorem execTxframe_of_long_payload (hlen : 2 ^ s.cfg.lengthFieldBits ≤ s.payload.length) :
    exec .txframe s = .next (failed s 5 2 0) := by
  rw [exec, execTxframe, configured_of_ready hrun hcfg, if_pos hlen]
  exact congrArg _ (raiseAt_operandError 2 0 s)

theorem execUnpack_of_invalid {k : Nat} (hk : firstNotBelow (2 ^ s.geo.bitsPerSymbol) s.syms = some k) :
    exec .unpack s = .next (failed s 5 2 k) := by
  rw [exec, execUnpack, configured_of_ready hrun hcfg, hk]
  exact congrArg _ (raiseAt_operandError 2 k s)

variable {v : BandVector} {b : Nat} (hv : s.svValue = some v) (hb : firstNotBelow s.geo.statesPerBand v = some b)
include hv hb

theorem execUnmap_of_invalid : exec .unmap s = .next (failed s 5 2 b) := by
  rw [exec, execUnmap, configured_of_ready hrun hcfg, hv]
  simp only [hb, raiseAt_operandError]
  rfl

theorem execMod_of_invalid : exec .mod s = .next (failed s 5 2 b) := by
  rw [exec, execMod, configured_of_ready hrun hcfg, hv]
  simp only [hb, raiseAt_operandError]
  rfl

end OutOfRange

/-- Settles O16: each command's range check, the least failing index being the first element not below the bound. -/
theorem operandsOutOfRangeAreRefused : Obligations.OperandsOutOfRangeAreRefused := by
  intro s hrun hcfg
  refine ⟨fun i => execMap_past_symbols hrun hcfg, fun i => execDemod_past_capture hrun hcfg,
    fun hlen => ⟨execFrame_of_long_payload hrun hcfg hlen, execTxframe_of_long_payload hrun hcfg hlen⟩,
    fun i x => execMap_of_invalid hrun hcfg, fun k x hx hinvalid hleast => ?symbol,
    fun v b d hvalid hsv hd hinvalid hleast => ?element⟩
  case symbol => exact execUnpack_of_invalid hrun hcfg ((firstNotBelow_eq_some _ _ _).2 ⟨⟨x, hx, hinvalid⟩, hleast⟩)
  case element =>
    have hv := (svValue_eq_some s v).2 ⟨hvalid, hsv⟩
    have hb := (firstNotBelow_eq_some _ _ _).2 ⟨⟨d, hd, hinvalid⟩, hleast⟩
    exact ⟨execUnmap_of_invalid hrun hcfg hv hb, execMod_of_invalid hrun hcfg hv hb⟩

end Sys2Proof.Proofs
end

section
/-! SUPPORT. The Band Mapper (rules R126 to R128): the base-`S` digits of a symbol and their weighted sum are inverse, by the
recursion on the bands that both follow. -/

namespace Sys2Proof.Proofs

open Sys2Proof.Machine Sys2Proof.Safety

theorem fromStates_eq_ofDigits (S : Nat) (v : BandVector) : fromStates S v = Nat.ofDigits S v := by
  induction v with
  | nil => rfl
  | cons d ds ih => rw [fromStates, ih, Nat.ofDigits_cons]

/-- Horner's form is the weighted sum of rule R127. -/
theorem fromStates_eq_sum (S : Nat) (v : BandVector) :
    fromStates S v = ∑ b ∈ Finset.range v.length, v.getD b 0 * S ^ b := by
  induction v with
  | nil => rfl
  | cons d ds ih =>
    rw [fromStates, ih, List.length_cons, Finset.sum_range_succ', Finset.mul_sum, add_comm]
    simp [pow_succ', Nat.mul_left_comm]

theorem fromStates_lt {S : Nat} (hS : 2 ≤ S) {v : BandVector} (hdigits : ∀ d ∈ v, d < S) :
    fromStates S v < S ^ v.length := by
  rw [fromStates_eq_ofDigits]
  exact Nat.ofDigits_lt_base_pow_length hS hdigits

/-- Band 0 takes the remainder, the bands above it the digits of the quotient. -/
theorem toStates_succ (x S B : Nat) : toStates x S (B + 1) = x % S :: toStates (x / S) S B := by
  simp [toStates, List.range_succ_eq_map, pow_succ', Nat.div_div_eq_div_mul]

theorem fromStates_toStates (x S B : Nat) : fromStates S (toStates x S B) = x % S ^ B := by
  induction B generalizing x with
  | zero => simp [toStates, fromStates, Nat.mod_one]
  | succ B ih => rw [toStates_succ, fromStates, ih, pow_succ', Nat.mod_mul]

theorem toStates_fromStates {S : Nat} {v : BandVector} (hdigits : ∀ d ∈ v, d < S) :
    toStates (fromStates S v) S v.length = v := by
  induction v with
  | nil => rfl
  | cons d ds ih =>
    obtain ⟨hd, hds⟩ := List.forall_mem_cons.1 hdigits
    have hS : 0 < S := by omega
    rw [List.length_cons, toStates_succ, fromStates, Nat.add_mul_mod_self_left, Nat.mod_eq_of_lt hd,
      Nat.add_mul_div_left _ _ hS, Nat.div_eq_of_lt hd, Nat.zero_add, ih hds]

theorem getElem?_toStates (x S : Nat) {B b : Nat} (hb : b < B) : (toStates x S B)[b]? = some (x / S ^ b % S) := by
  simp [toStates, hb]

/-- No vector is left over exactly when the alphabet is a power of two (rule R128). -/
theorem two_pow_ilog2_eq_self_iff (m : Nat) : 2 ^ ilog2 m = m ↔ ∃ k, m = 2 ^ k := by
  refine ⟨fun h => ⟨ilog2 m, h.symm⟩, ?_⟩
  rintro ⟨k, rfl⟩
  rw [ilog2, Nat.log2_two_pow]

/-- Settles O34: a symbol below S^B is its own remainder, and a vector is the digits of its sum. -/
theorem bandDigitsAreABijection : Obligations.BandDigitsAreABijection := by
  refine ⟨fromStates_eq_sum, fun S B hS _ => ⟨fun x b _ => getElem?_toStates x S, fun x hx => ?symbol,
    fun v hlen hdigits => ?vector, Nat.log2_self_le ?alphabet, two_pow_ilog2_eq_self_iff _⟩⟩
  case symbol =>
    exact ⟨length_toStates x S B, fun d => toStates_lt (by omega),
      (fromStates_toStates x S B).trans (Nat.mod_eq_of_lt hx)⟩
  case vector =>
    subst hlen
    exact ⟨fromStates_lt hS hdigits, toStates_fromStates hdigits⟩
  case alphabet => exact (Nat.pow_pos (by omega)).ne'

end Sys2Proof.Proofs
end

section
/-! SUPPORT. `MAP` and `UNMAP` on operands in range (rules R129, R131). -/

namespace Sys2Proof.Proofs

open Sys2Proof.Machine Sys2Proof.Safety

/-- Settles O35: the success of `MAP`, its digits written out. -/
theorem mapWritesTheVector : Obligations.MapWritesTheVector := by
  intro s i x hrun hcfg hx hvalid
  rw [execMap_of_valid hrun hcfg hx hvalid, toStates, State.writeSv, List.map_map]
  rfl

/-- The failure of a vector outside the alphabet, in the registers' layout (rules R131, R197, R205). -/
theorem raiseAt_alphabet (index : Nat) (s : State) :
    raiseAt .decodeError DecodeCause.alphabet.info index s = failed s 3 1 index :=
  raiseAt_eq_failed (by decide) _ index s

/-- With a readable vector of digits and room for a symbol, `UNMAP` asks only whether the symbol is valid (rule R131). -/
theorem execUnmap_of_fits {s : State} (hrun : s.flag .halted = false) (hcfg : s.flag .cfgValid = true) {v : BandVector}
    (hv : s.svValue = some v) (hdigits : ∀ d ∈ v, d < s.geo.statesPerBand)
    (hcap : fits (s.syms.length + 1) s.caps.syms = true) :
    exec .unmap s = .next
      (if 2 ^ s.geo.bitsPerSymbol ≤ fromStates s.geo.statesPerBand v then failed s 3 1 s.syms.length
      else succeed { s with syms := s.syms ++ [fromStates s.geo.statesPerBand v] }) := by
  rw [exec, execUnmap, configured_of_ready hrun hcfg, hv]
  simp only [(firstNotBelow_eq_none _ _).2 hdigits, hcap, Bool.true_eq_false, if_false, raiseAt_alphabet]

/-- Settles O36: the two answers of the one check left. -/
theorem unmapAppendsTheSymbol : Obligations.UnmapAppendsTheSymbol := by
  intro s v hrun hcfg hflag hsv hdigits hcap x
  have hv := (svValue_eq_some s v).2 ⟨hflag, hsv⟩
  have hx : fromStates s.geo.statesPerBand v = x := fromStates_eq_sum _ v
  rw [execUnmap_of_fits hrun hcfg hv hdigits hcap, hx]
  refine ⟨fun hvalid => ?_, fun hinvalid => ?_⟩
  · rw [if_neg (not_le.2 hvalid)]
    rfl
  · rw [if_pos hinvalid]

end Sys2Proof.Proofs
end

section
/-! SUPPORT. The samples that the modulator and the chirp generate: rule R141's sum over the bands, the range of a mean of
sines, and phase 0 at sample 0 (rules R141, R145, R168). -/

namespace Sys2Proof.Proofs

open Sys2Proof.Machine

/-- A sum over a list's elements with their indices is the sum over the indices. -/
theorem sum_map_zipIdx {α : Type} (x : List α) (d : α) (f : α → Nat → Rat) :
    (x.zipIdx.map fun xi => f xi.1 xi.2).sum = ∑ i ∈ Finset.range x.length, f (x.getD i d) i := by
  induction x generalizing f with
  | nil => rfl
  | cons a x ih =>
    have htail := ih fun b i => f b (i + 1)
    rw [List.length_cons, Finset.sum_range_succ', add_comm]
    simpa [List.zipIdx_succ, Function.comp_def] using htail

/-- The mean of values in [−1, +1] lies in [−1, +1]. -/
theorem mean_mem_range {l : List Rat} (hne : 1 ≤ l.length) (h : ∀ x ∈ l, -1 ≤ x ∧ x ≤ 1) :
    -1 ≤ 1 / (l.length : Rat) * l.sum ∧ 1 / (l.length : Rat) * l.sum ≤ 1 := by
  have hpos : (0 : Rat) < l.length := by exact_mod_cast hne
  have hlow := List.card_nsmul_le_sum l (-1) fun x hx => (h x hx).1
  have hhigh := List.sum_le_card_nsmul l 1 fun x hx => (h x hx).2
  rw [one_div_mul_eq_div, le_div_iff₀ hpos, div_le_iff₀ hpos]
  simp only [nsmul_eq_mul] at hlow hhigh
  exact ⟨by linarith, by linarith⟩

theorem clip_mem_range (x : Rat) : -1 ≤ clip x ∧ clip x ≤ 1 :=
  ⟨le_max_left _ _, max_le (by norm_num) (min_le_left _ _)⟩

theorem clip_of_mem_range {x : Rat} (hlow : -1 ≤ x) (hhigh : x ≤ 1) : clip x = x := by
  rw [clip, min_eq_right hhigh, max_eq_right hlow]

/-- What a generated list holds at an index: the generator's value there. -/
theorem getElem?_map_range_eq_some {f : Nat → Sample} {N n : Nat} {x : Sample} :
    ((List.range N).map f)[n]? = some x ↔ n < N ∧ f n = x := by
  simp [List.getElem?_eq_some_iff]

section Samples

variable {num : Numerics} {c : ConfigRegs} {g : Geometry}

theorem modSample_mem_range (hrange : num.NPRange) (hq : num.NPQRange) {v : BandVector} (hlen : v.length = c.bandCount)
    (hB : 1 ≤ c.bandCount) (n : Nat) : -1 ≤ modSample num c g v n ∧ modSample num c g v n ≤ 1 := by
  have hsines : ∀ y ∈ v.zipIdx.map fun db => num.sinturn (tone c g db.2 db.1 * (n : Rat) / c.sampleRate),
      -1 ≤ y ∧ y ≤ 1 :=
    List.forall_mem_map.2 fun _ _ => (hrange _).1
  obtain ⟨hlow, hhigh⟩ := mean_mem_range (by simpa [hlen] using hB) hsines
  rw [List.length_map, List.length_zipIdx, hlen] at hlow hhigh
  exact hq _ hlow hhigh

/-- Every tone starts at phase 0 (rule R141), so each band adds 0 to sample 0. -/
theorem modSample_zero (hzero : num.NPZero) (v : BandVector) : modSample num c g v 0 = 0 := by
  obtain ⟨hsin, -, hq⟩ := hzero
  simp [modSample, hsin, hq]

theorem chirpTurns_zero : chirpTurns c g 0 = 0 := by
  simp [chirpTurns]

end Samples

/-- Settles O37: the model's sum over the vector's elements with their indices, as the sum over the bands. -/
theorem modulatedSampleIsTheMeanOfTheTones : Obligations.ModulatedSampleIsTheMeanOfTheTones := by
  intro num c g v hlen
  refine ⟨length_modulate num c g v, fun n hn => getElem?_map_range_eq_some.2 ⟨hn, ?_⟩⟩
  rw [modSample, sum_map_zipIdx v 0 fun d b => num.sinturn (tone c g b d * (n : Rat) / c.sampleRate), hlen]
  simp only [tone, bandEdge]

/-- Settles O38: a window's samples are quantised means of sines, the chirp's are quantised clipped sines, and both have
phase 0 at sample 0. -/
theorem generatedSamplesStayInRange : Obligations.GeneratedSamplesStayInRange := by
  intro num c g v
  refine ⟨fun hrange hq hlen hB => ?window, fun hrange n => ?clipped, fun hq => ?chirp, fun hzero => ⟨?window0, ?chirp0⟩⟩
  case window => exact List.forall_mem_map.2 fun n _ => modSample_mem_range hrange hq hlen hB n
  case clipped => exact clip_of_mem_range (hrange _).1.1 (hrange _).1.2
  case chirp =>
    exact List.forall_mem_map.2 fun n _ => hq _ (clip_mem_range _).1 (clip_mem_range _).2
  case window0 =>
    intro x hx
    obtain ⟨-, rfl⟩ := getElem?_map_range_eq_some.1 hx
    exact modSample_zero hzero v
  case chirp0 =>
    intro x hx
    obtain ⟨-, rfl⟩ := getElem?_map_range_eq_some.1 hx
    obtain ⟨hsin, -, hq⟩ := hzero
    rw [chirpTurns_zero, hsin, clip_of_mem_range (by norm_num) (by norm_num), hq]

/-- Settles O39: the success of `MOD`, with `SV` read as the vector. -/
theorem modAppendsTheWindow : Obligations.ModAppendsTheWindow := by
  intro s v hrun hcfg hflag hsv hdigits hcap
  exact execMod_of_fits hrun hcfg ((svValue_eq_some s v).2 ⟨hflag, hsv⟩) hdigits hcap

end Sys2Proof.Proofs
end

section
/-! PROOFS. The Multi-Tone Demodulator (rules R151 to R156): its transform's sums over the sample indices, and each outcome
of `demodulate` said band by band. -/

namespace Sys2Proof.Proofs

open Sys2Proof.Machine

theorem windowSum_length (f : Rat → Rat) (x : List Sample) (k : Nat) :
    windowSum f x.length x k =
      ∑ n ∈ Finset.range x.length, x.getD n 0 * f ((k : Rat) * (n : Rat) / (x.length : Rat)) :=
  sum_map_zipIdx x 0 fun sample n => sample * f ((k : Rat) * (n : Rat) / (x.length : Rat))

/-- Settles O40: the model's sums over the samples with their indices, as sums over the indices. -/
theorem powerIsTheSquaredTransform : Obligations.PowerIsTheSquaredTransform := by
  intro num x k
  rw [power, windowSum_length, windowSum_length]

section Demodulator

variable {num : Numerics} {c : ConfigRegs} {g : Geometry} {x : List Sample}

/-- A bin is not below its band's lower edge (rule R152), so its step index is no negative number. -/
theorem nearestState_nonneg {b k : Nat} (hstep : 0 < c.step) (hk : k ∈ bins c g b) : 0 ≤ nearestState c g b k := by
  obtain ⟨-, hlow, -⟩ := (mem_bins c g b k).1 hk
  exact roundHE_nonneg (div_nonneg (sub_nonneg.2 hlow) hstep.le)

/-- With a step index that is not negative, the state of a band is the index itself (rule R154). -/
theorem bandState_eq_ok_iff_lt {b d : Nat} (hstep : 0 < c.step) :
    bandState num c g x b = .ok d ↔
      d < g.statesPerBand ∧ ∃ k, peakBin num c g x b = some k ∧ nearestState c g b k = (d : Int) := by
  rw [bandState_eq_ok]
  constructor
  · rintro ⟨k, hpeak, hlt, rfl⟩
    have hnonneg := nearestState_nonneg hstep ((peakBin_eq_some num c g x b k).1 hpeak).1
    exact ⟨by omega, k, hpeak, by omega⟩
  · rintro ⟨hlt, k, hpeak, hstate⟩
    exact ⟨k, hpeak, by omega, by omega⟩

theorem forall₂_range_bandState {B : Nat} {v : BandVector} :
    List.Forall₂ (fun b d => bandState num c g x b = .ok d) (List.range B) v ↔
      v.length = B ∧ ∀ b d, v[b]? = some d → bandState num c g x b = .ok d := by
  rw [← collect_eq_ok, List.range_eq_range', collect_range'_eq_ok]
  simp only [Nat.zero_add]

theorem demodulate_eq_alphabet {b : Nat} :
    demodulate num c g x = .error (.alphabet, b) ↔
      b = 0 ∧ ∃ v, List.Forall₂ (fun b d => bandState num c g x b = .ok d) (List.range c.bandCount) v ∧
        2 ^ g.bitsPerSymbol ≤ fromStates g.statesPerBand v := by
  simp [demodulate_eq_error, bandState_eq_error]

theorem demodulate_eq_emptyBand {b : Nat} :
    demodulate num c g x = .error (.emptyBand, b) ↔
      b < c.bandCount ∧ (∀ b', b' < b → ∃ d, bandState num c g x b' = .ok d) ∧ ∀ k, k ∉ bins c g b := by
  simp [demodulate_eq_error, bandState_eq_error, peakBin_eq_none, and_comm]

theorem demodulate_eq_stepIndex {b : Nat} :
    demodulate num c g x = .error (.stepIndex, b) ↔
      b < c.bandCount ∧ (∀ b', b' < b → ∃ d, bandState num c g x b' = .ok d) ∧
        ∃ k, peakBin num c g x b = some k ∧ (g.statesPerBand : Int) ≤ nearestState c g b k := by
  simp [demodulate_eq_error, bandState_eq_error, and_comm]

end Demodulator

/-- Settles O42: the statement's bins, peaks and decoded states are the model's, of which each outcome is known. -/
theorem demodulateReportsTheLowestFailure : Obligations.DemodulateReportsTheLowestFailure := by
  intro num c g x hstep lo freq inBand peak state decodes decoded
  have hband (b k : Nat) : k ∈ bins c g b ↔ inBand b k := mem_bins c g b k
  have hstate (b k : Nat) : nearestState c g b k = state b k := rfl
  have hpeak (b k : Nat) : peakBin num c g x b = some k ↔ peak b k := by
    simp only [peakBin_eq_some, hband, peak]
  have hdecodes (b d : Nat) : bandState num c g x b = .ok d ↔ decodes b d := by
    simp only [bandState_eq_ok_iff_lt hstep, hpeak, hstate, decodes]
  have hdecoded (v : BandVector) :
      List.Forall₂ (fun b d => bandState num c g x b = .ok d) (List.range c.bandCount) v ↔ decoded v := by
    rw [forall₂_range_bandState]
    simp only [hdecodes, decoded]
  refine ⟨fun v => ?ok, fun b => ?alphabet, fun b => ?emptyBand, fun b => ?stepIndex, demodulate_ne_length num c g x⟩
  case ok => rw [demodulate_eq_ok, hdecoded]
  case alphabet => simp only [demodulate_eq_alphabet, hdecoded]
  case emptyBand => simp only [demodulate_eq_emptyBand, hdecodes, hband]
  case stepIndex => simp only [demodulate_eq_stepIndex, hdecodes, hpeak, hstate]

/-- Settles O41: the success case of O42, band by band. -/
theorem demodulatePicksEachBandsPeak : Obligations.DemodulatePicksEachBandsPeak := by
  intro num c g x v hstep hv
  obtain ⟨hok, -⟩ := demodulateReportsTheLowestFailure num c g x hstep
  obtain ⟨⟨hlen, hdecodes⟩, hvalid⟩ := (hok v).1 hv
  refine ⟨hlen, fun d hd => ?_, hvalid, fun b d hbd => ?_⟩
  · obtain ⟨b, hb⟩ := List.mem_iff_getElem?.1 hd
    exact (hdecodes b d hb).1
  · obtain ⟨-, k, ⟨hband, hmax⟩, hstate⟩ := hdecodes b d hbd
    exact ⟨k, hband, hstate.symm, hmax⟩

end Sys2Proof.Proofs
end

section
/-! PROOFS. The Chirp Preamble Codec (rules R166 to R178): the samples of the chirp, the detector's correlation as a sum over
the template's indices, its peak as a maximum over the offsets, and the three commands. -/

namespace Sys2Proof.Proofs

open Sys2Proof.Machine Sys2Proof.Safety

/-! ### Detection -/

/-- A sum of products over two lists in step; past the end of the shorter one a factor is 0. -/
theorem sum_zipWith_mul (xs ys : List Rat) :
    (List.zipWith (· * ·) xs ys).sum = ∑ n ∈ Finset.range xs.length, xs.getD n 0 * ys.getD n 0 := by
  induction xs generalizing ys with
  | nil => rfl
  | cons x xs ih =>
    cases ys with
    | nil => simp
    | cons y ys =>
      rw [List.zipWith_cons_cons, List.sum_cons, ih, List.length_cons, Finset.sum_range_succ', add_comm]
      simp only [List.getD_cons_succ, List.getD_cons_zero]

/-- A list that increases in its keys has one peak: two would have equal values, and each key the other's bound. -/
theorem earliestMax_eq_some_iff {ps : List (Nat × Rat)} (hs : ps.Pairwise fun a b => a.1 < b.1) {m : Nat × Rat} :
    earliestMax ps = some m ↔ m ∈ ps ∧ ∀ p ∈ ps, p.2 ≤ m.2 ∧ (p.2 = m.2 → m.1 ≤ p.1) := by
  refine ⟨fun h => earliestMax_eq_some h hs, fun ⟨hm, hmax⟩ => ?_⟩
  cases h : earliestMax ps with
  | none =>
    rw [(earliestMax_eq_none ps).1 h] at hm
    cases hm
  | some q =>
    obtain ⟨hq, hqmax⟩ := earliestMax_eq_some h hs
    have hvalue : q.2 = m.2 := le_antisymm (hmax q hq).1 (hqmax m hm).1
    have hkey : q.1 = m.1 := le_antisymm ((hqmax m hm).2 hvalue.symm) ((hmax q hq).2 hvalue)
    rw [Prod.ext hkey hvalue]

section Detector

variable {rx tpl : List Sample} {thr : Rat}

theorem corr_eq_sum (k : Nat) :
    corr rx tpl k = ∑ n ∈ Finset.range tpl.length, tpl.getD n 0 * rx.getD (k + n) 0 := by
  rw [corr, sum_zipWith_mul]
  simp only [List.getD_eq_getElem?_getD, List.getElem?_drop]

/-- The candidates are the full-overlap offsets with their correlations (rule R173). -/
theorem mem_candidates {k : Nat} {p : Rat} :
    (k, p) ∈ candidates rx tpl ↔ k + tpl.length ≤ rx.length ∧ p = corr rx tpl k := by
  have hlt : k < rx.length + 1 - tpl.length ↔ k + tpl.length ≤ rx.length := by omega
  rw [← hlt, ← List.mem_range, candidates, List.mem_map]
  constructor
  · rintro ⟨j, hj, ⟨⟩⟩
    exact ⟨hj, rfl⟩
  · rintro ⟨hk, rfl⟩
    exact ⟨k, hk, rfl⟩

theorem candidates_eq_nil : candidates rx tpl = [] ↔ rx.length < tpl.length := by
  rw [candidates, List.map_eq_nil_iff, List.range_eq_nil]
  omega

theorem forall_mem_candidates {P : Nat × Rat → Prop} :
    (∀ p ∈ candidates rx tpl, P p) ↔ ∀ j, j + tpl.length ≤ rx.length → P (j, corr rx tpl j) := by
  constructor
  · exact fun h j hj => h _ (mem_candidates.2 ⟨hj, rfl⟩)
  · rintro h ⟨j, q⟩ hp
    obtain ⟨hj, rfl⟩ := mem_candidates.1 hp
    exact h j hj

theorem detect_eq_tooShort : detect rx tpl thr = .error .tooShort ↔ rx.length < tpl.length := by
  rw [← candidates_eq_nil, ← earliestMax_eq_none, detect]
  cases earliestMax (candidates rx tpl) with
  | none => simp
  | some p =>
    simp only [reduceCtorEq, iff_false]
    split_ifs <;> simp

theorem detect_eq_belowThreshold_iff_peak :
    detect rx tpl thr = .error .belowThreshold ↔ ∃ p, earliestMax (candidates rx tpl) = some p ∧ p.2 < thr := by
  rw [detect]
  cases earliestMax (candidates rx tpl) with
  | none => simp
  | some p =>
    by_cases hp : p.2 < thr <;> simp [hp]

/-- A peak below the threshold puts every candidate below it, and the peak is a candidate. -/
theorem detect_eq_belowThreshold :
    detect rx tpl thr = .error .belowThreshold ↔
      tpl.length ≤ rx.length ∧ ∀ j, j + tpl.length ≤ rx.length → corr rx tpl j < thr := by
  rw [detect_eq_belowThreshold_iff_peak]
  constructor
  · rintro ⟨⟨k, p⟩, hpeak, hp⟩
    obtain ⟨hmem, hmax⟩ := earliestMax_eq_some hpeak (candidates_pairwise rx tpl)
    obtain ⟨hoffset, -⟩ := mem_candidates.1 hmem
    exact ⟨by omega, forall_mem_candidates.1 fun q hq => (hmax q hq).1.trans_lt hp⟩
  · rintro ⟨hlen, hbelow⟩
    have hne : earliestMax (candidates rx tpl) ≠ none := by
      rw [ne_eq, earliestMax_eq_none, candidates_eq_nil]
      omega
    obtain ⟨p, hpeak⟩ := Option.ne_none_iff_exists'.1 hne
    obtain ⟨hmem, -⟩ := earliestMax_eq_some hpeak (candidates_pairwise rx tpl)
    exact ⟨p, hpeak, forall_mem_candidates (P := fun q => q.2 < thr).2 hbelow p hmem⟩

end Detector

/-- "at most p, and k no later where equal" says that the earlier offsets are strictly below. -/
theorem le_and_earliest_iff {a p : Rat} {j k : Nat} : (a ≤ p ∧ (a = p → k ≤ j)) ↔ a ≤ p ∧ (j < k → a < p) := by
  refine and_congr_right fun hle => ?_
  rw [hle.lt_iff_ne, ← not_imp_not, not_le]

/-- Settles O46: the peak of the candidates, with the correlation as the statement's sum. -/
theorem detectFindsTheEarliestPeak : Obligations.DetectFindsTheEarliestPeak := by
  intro rx tpl thr corrAt
  have hcorr : corr rx tpl = corrAt := funext corr_eq_sum
  refine ⟨fun k p => ?_, detect_eq_tooShort, ?_⟩
  · rw [detect_eq_ok, earliestMax_eq_some_iff (candidates_pairwise rx tpl), mem_candidates, forall_mem_candidates, hcorr]
    simp only [le_and_earliest_iff]
    tauto
  · rw [detect_eq_belowThreshold, hcorr]

/-! ### The chirp and the commands -/

/-- Settles O44: the generated list at an index, with the phase and the clip written out. -/
theorem chirpSamplesTheSweptPhase : Obligations.ChirpSamplesTheSweptPhase := by
  intro num c g
  exact ⟨length_chirp num c g, fun n hn => getElem?_map_range_eq_some.2 ⟨hn, rfl⟩⟩

/-- Settles O45: the two commands when their checks have passed. -/
theorem chirpAndTxpreWriteThePreamble : Obligations.ChirpAndTxpreWriteThePreamble :=
  fun _ hrun hcfg => ⟨execChirp_of_fits hrun hcfg, execTxpre_of_fits hrun hcfg⟩

section Detect

variable {s : State} (hrun : s.flag .halted = false) (hcfg : s.flag .cfgValid = true) (htpl : s.flag .tplValid = true)
include hrun hcfg htpl

theorem execDetect_of_ok {k : Nat} {p : Rat} (h : detect s.rxs s.tpl s.cfg.syncThreshold = .ok (k, p)) :
    exec .detect s = .next (succeed (s.setSync k p (k + s.geo.lPreamble + s.geo.gGuard))) := by
  rw [exec, execDetect, configured_of_ready hrun hcfg, if_neg (by simp [htpl]), h]

theorem execDetect_of_error {e : SyncCause} (h : detect s.rxs s.tpl s.cfg.syncThreshold = .error e) :
    exec .detect s = .next (failed s.clearSync 2 e.info.toNat 0) := by
  rw [exec, execDetect, configured_of_ready hrun hcfg, if_neg (by simp [htpl]), h]
  exact congrArg _ (raiseAt_eq_failed (by decide) _ 0 _)

end Detect

/-- Settles O47: each answer of `detect` written to the registers. -/
theorem detectSynchronises : Obligations.DetectSynchronises :=
  fun _ hrun hcfg htpl => ⟨fun _ _ => execDetect_of_ok hrun hcfg htpl, execDetect_of_error hrun hcfg htpl,
    execDetect_of_error hrun hcfg htpl⟩

end Sys2Proof.Proofs
end

section
/-! SUPPORT. The whole-frame commands `TXFRAME` and `RXFRAME`, their checks passed (rules R186, R187, R189, R197). -/

namespace Sys2Proof.Proofs

open Sys2Proof.Machine Sys2Proof.Safety

/-! ### `TXFRAME` -/

/-- Settles O49: the state of an accepted `TXFRAME`, by whether the frame has a last symbol. -/
theorem txframeWritesTheTransmission : Obligations.TxframeWritesTheTransmission := by
  intro s hrun hcfg hlen bits symbols hbits hsyms hsamples t
  have hcount : bits.length = s.cfg.lengthFieldBits + s.payload.length := length_frameBits _ _
  have hsymbols : symbols.length = ceilDiv (s.cfg.lengthFieldBits + s.payload.length) s.geo.bitsPerSymbol := by
    rw [length_pack, hcount]
  have haccepted : TxframeAccepted s := ⟨hlen, hcount ▸ hbits, hsymbols ▸ hsyms, hsymbols ▸ hsamples⟩
  have hexec : exec .txframe s = .next (succeed (transmitted (preambled s) symbols)) :=
    execTxframe_of_accepted hrun hcfg haccepted
  refine ⟨fun hnone => ?_, fun init last hlast => ?_⟩
  · have hsv : symbols.getLast? = none := by rw [hnone, List.getLast?_nil]
    rw [hexec, transmitted, hsv]
    rfl
  · have hsv : symbols.getLast? = some last := by rw [hlast, List.getLast?_concat]
    rw [hexec, transmitted, hsv]
    rfl

/-! ### `RXFRAME` -/

/-- The capacity checks of `RXFRAME` (rule R189). -/
structure RxframeAccepted (s : State) : Prop where
  samples : fits s.geo.lPreamble s.caps.samples = true
  syms : fits (s.rxs.length / s.geo.nSymbol) s.caps.syms = true
  bits : fits (s.rxs.length / s.geo.nSymbol * s.geo.bitsPerSymbol) s.caps.bits = true

section Outcomes

variable {s : State} (hrun : s.flag .halted = false) (hcfg : s.flag .cfgValid = true) (haccepted : RxframeAccepted s)
include hrun hcfg haccepted

theorem execRxframe_of_ok {k ds : Nat} {p : Rat} {symbols : List Nat} {fbits payload : List Bit}
    {last : Option BandVector} (h : rxFrame Config.num s.cfg s.geo s.rxs = .ok k p ds symbols fbits payload last) :
    exec .rxframe s = .next (succeed ((((s.writeTpl (chirp Config.num s.cfg s.geo)).setSync k p ds).writeFrame
      symbols fbits payload).writeLastSv last)) := by
  rw [exec, execRxframe, configured_of_ready hrun hcfg,
    if_neg (by simp [haccepted.samples, haccepted.syms, haccepted.bits]), h]

theorem execRxframe_of_syncError {e : SyncCause} (h : rxFrame Config.num s.cfg s.geo s.rxs = .syncError e) :
    exec .rxframe s =
      .next (failed ((s.writeTpl (chirp Config.num s.cfg s.geo)).clearSync.writeFrame [] [] []) 2 e.info.toNat 0) := by
  rw [exec, execRxframe, configured_of_ready hrun hcfg,
    if_neg (by simp [haccepted.samples, haccepted.syms, haccepted.bits]), h]
  exact congrArg _ (raiseAt_eq_failed (by decide) _ 0 _)

theorem execRxframe_of_decodeError {k ds index : Nat} {p : Rat} {e : DecodeCause}
    (h : rxFrame Config.num s.cfg s.geo s.rxs = .decodeError k p ds e index) :
    exec .rxframe s = .next (failed (((s.writeTpl (chirp Config.num s.cfg s.geo)).setSync k p ds).writeFrame
      [] [] []).invalidateSv 3 e.info.toNat index) := by
  rw [exec, execRxframe, configured_of_ready hrun hcfg,
    if_neg (by simp [haccepted.samples, haccepted.syms, haccepted.bits]), h]
  exact congrArg _ (raiseAt_eq_failed (by decide) _ index _)

end Outcomes

/-- Settles O51: each answer of `rx_frame` written to the registers. -/
theorem rxframeWritesTheFrame : Obligations.RxframeWritesTheFrame := by
  intro s hrun hcfg hsamples hsyms hbits tpl rx lost
  have haccepted : RxframeAccepted s := ⟨hsamples, hsyms, hbits⟩
  refine ⟨?decoded, execRxframe_of_syncError hrun hcfg haccepted, execRxframe_of_syncError hrun hcfg haccepted, ?failed⟩
  case decoded =>
    intro k p ds symbols fbits payload last h t
    constructor
    · rintro rfl
      exact execRxframe_of_ok hrun hcfg haccepted h
    · rintro v rfl
      exact execRxframe_of_ok hrun hcfg haccepted h
  case failed =>
    intro k p ds index bad
    have hfail {e : DecodeCause} (h : rx = .decodeError k p ds e index) :
        exec .rxframe s = .next (bad e.info.toNat) := by
      refine (execRxframe_of_decodeError hrun hcfg haccepted h).trans ?_
      simp only [bad, List.map_const']
      rfl
    exact ⟨hfail, hfail, hfail, hfail⟩

end Sys2Proof.Proofs
end

section
/-! SUPPORT. When `rx_frame` answers a frame (rule R188): the windows of the whole frame decode, and the length their first
bits hold says how many they are. -/

namespace Sys2Proof.Proofs

open Sys2Proof.Machine Sys2Proof.Safety

/-- The first bits of some symbols are those of all of them, where the former have enough. -/
theorem unpack_append_left {symbols rest : List Nat} {w total : Nat} (h : total ≤ symbols.length * w) :
    unpack (symbols ++ rest) w total = unpack symbols w total := by
  rw [unpack, unpack, List.flatMap_append, List.take_append_of_le_length (by simpa [List.length_flatMap] using h)]

/-- A shorter unpacking is the start of a longer one. -/
theorem take_unpack (symbols : List Nat) (w : Nat) {m total : Nat} (h : m ≤ total) :
    (unpack symbols w total).take m = unpack symbols w m := by
  rw [unpack, unpack, List.take_take, min_eq_left h]

theorem length_unpack {symbols : List Nat} {w total : Nat} (h : total ≤ symbols.length * w) :
    (unpack symbols w total).length = total := by
  rw [unpack, List.length_take_of_le (by simpa [List.length_flatMap] using h)]

section Windows

variable {num : Numerics} {c : ConfigRegs} {g : Geometry} {rx : List Sample} {ds : Nat}

theorem demodWindows_take {m n : Nat} {vs : List BandVector} (h : demodWindows num c g rx ds 0 n = .ok vs) (hm : m ≤ n) :
    demodWindows num c g rx ds 0 m = .ok (vs.take m) := by
  obtain ⟨rfl, hall⟩ := demodWindows_eq_ok.1 h
  refine demodWindows_eq_ok.2 ⟨List.length_take_of_le hm, fun i v hi => hall i v ?_⟩
  rw [List.getElem?_take] at hi
  split_ifs at hi
  exact hi

theorem demodWindows_append {m n : Nat} {vs rest : List BandVector} (h : demodWindows num c g rx ds 0 m = .ok vs)
    (hrest : demodWindows num c g rx ds vs.length n = .ok rest) :
    demodWindows num c g rx ds 0 (m + n) = .ok (vs ++ rest) := by
  obtain ⟨rfl, hall⟩ := demodWindows_eq_ok.1 h
  obtain ⟨rfl, hall'⟩ := demodWindows_eq_ok.1 hrest
  refine demodWindows_eq_ok.2 ⟨List.length_append, fun i v hi => ?_⟩
  rcases Nat.lt_or_ge i vs.length with hlt | hge
  · exact hall i v (by rwa [List.getElem?_append_left hlt] at hi)
  · rw [List.getElem?_append_right hge] at hi
    simpa [hge] using hall' _ v hi

end Windows

/-- The capture `rx` holds from `ds` on a frame with a payload of n bits: the windows of field and payload are inside it,
they decode to the vectors `vs`, and their first `lfb` bits have the value n. -/
structure FrameAt (num : Numerics) (c : ConfigRegs) (g : Geometry) (rx : List Sample) (ds n : Nat)
    (vs : List BandVector) : Prop where
  inside : ds + ceilDiv (c.lengthFieldBits + n) g.bitsPerSymbol * g.nSymbol ≤ rx.length
  windows : demodWindows num c g rx ds 0 (ceilDiv (c.lengthFieldBits + n) g.bitsPerSymbol) = .ok vs
  field : beValue (unpack (vs.map (fromStates g.statesPerBand)) g.bitsPerSymbol c.lengthFieldBits) = n

/-- What `rx_frame` answers for such a frame, detected at offset k with peak p. -/
def frameOutcome (c : ConfigRegs) (g : Geometry) (k : Nat) (p : Rat) (n : Nat) (vs : List BandVector) : RxOutcome :=
  let symbols := vs.map (fromStates g.statesPerBand)
  let fbits := unpack symbols g.bitsPerSymbol (c.lengthFieldBits + n)
  .ok k p (k + g.lPreamble + g.gGuard) symbols fbits ((fbits.drop c.lengthFieldBits).take n) vs.getLast?

section Received

variable {num : Numerics} {c : ConfigRegs} {g : Geometry} {rx : List Sample} {k n : Nat} {p : Rat}
  {vs header : List BandVector} (hw : 1 ≤ g.bitsPerSymbol)
include hw

/-- The symbols of a frame have bits for its field and payload. -/
theorem FrameAt.le_symbols {ds : Nat} (h : FrameAt num c g rx ds n vs) :
    c.lengthFieldBits + n ≤ (vs.map (fromStates g.statesPerBand)).length * g.bitsPerSymbol := by
  obtain ⟨hlen, -⟩ := demodWindows_eq_ok.1 h.windows
  rw [List.length_map, hlen]
  exact le_ceilDiv_mul _ hw

/-- The header windows already hold the length field. -/
theorem unpack_header (hheader : header.length = ceilDiv c.lengthFieldBits g.bitsPerSymbol) (rest : List BandVector) :
    unpack ((header ++ rest).map (fromStates g.statesPerBand)) g.bitsPerSymbol c.lengthFieldBits =
      unpack (header.map (fromStates g.statesPerBand)) g.bitsPerSymbol c.lengthFieldBits := by
  rw [List.map_append, unpack_append_left]
  rw [List.length_map, hheader]
  exact le_ceilDiv_mul _ hw

/-- `rx_frame` finds the frame that starts where its detection says. -/
theorem rxFrame_of_frameAt (hd : detect rx (chirp num c g) c.syncThreshold = .ok (k, p))
    (h : FrameAt num c g rx (k + g.lPreamble + g.gGuard) n vs) : rxFrame num c g rx = frameOutcome c g k p n vs := by
  have hK : ceilDiv c.lengthFieldBits g.bitsPerSymbol ≤ ceilDiv (c.lengthFieldBits + n) g.bitsPerSymbol :=
    ceilDiv_mono _ (Nat.le_add_right _ _)
  have hheader := demodWindows_take h.windows hK
  obtain ⟨rest, hvs, hrest⟩ := demodWindows_split h.windows hheader hK
  obtain ⟨hcount, -⟩ := demodWindows_eq_ok.1 hheader
  have hfield := h.field
  rw [hvs, unpack_header hw hcount] at hfield
  have hlong := (Nat.add_le_add_left (Nat.mul_le_mul_right g.nSymbol hK) _).trans h.inside
  rw [rxFrame_of_header hd hlong hheader, rxBody_of_ok hfield h.inside hrest, ← hvs]
  rfl

/-- After the header, `rx_frame` fails or has found a frame. -/
theorem rxBody_cases {ds : Nat} (hds : ds = k + g.lPreamble + g.gGuard)
    (hheader : demodWindows num c g rx ds 0 (ceilDiv c.lengthFieldBits g.bitsPerSymbol) = .ok header) :
    (∃ e index, rxBody num c g rx k p ds header = .decodeError k p ds e index) ∨
      ∃ n vs, FrameAt num c g rx ds n vs ∧ rxBody num c g rx k p ds header = frameOutcome c g k p n vs := by
  obtain ⟨hcount, -⟩ := demodWindows_eq_ok.1 hheader
  obtain ⟨n, hn⟩ : ∃ n,
      beValue (unpack (header.map (fromStates g.statesPerBand)) g.bitsPerSymbol c.lengthFieldBits) = n := ⟨_, rfl⟩
  rcases Nat.lt_or_ge rx.length (ds + ceilDiv (c.lengthFieldBits + n) g.bitsPerSymbol * g.nSymbol) with hshort | hlong
  · exact .inl ⟨_, _, rxBody_of_short hn hshort⟩
  cases hrest : demodWindows num c g rx ds header.length
      (ceilDiv (c.lengthFieldBits + n) g.bitsPerSymbol - header.length) with
  | error e => exact .inl ⟨_, _, rxBody_of_error hn hlong hrest⟩
  | ok rest =>
    have hK : ceilDiv c.lengthFieldBits g.bitsPerSymbol ≤ ceilDiv (c.lengthFieldBits + n) g.bitsPerSymbol :=
      ceilDiv_mono _ (Nat.le_add_right _ _)
    have hwindows := demodWindows_append hheader hrest
    rw [hcount, Nat.add_sub_cancel' hK] at hwindows
    have hfield := hn
    rw [← unpack_header hw hcount rest] at hfield
    refine .inr ⟨n, header ++ rest, ⟨hlong, hwindows, hfield⟩, ?_⟩
    rw [rxBody_of_ok hn hlong hrest, hds]
    rfl

/-- A frame that `rx_frame` answers is one from the detected offset on. -/
theorem frameAt_of_rxFrame {ds : Nat} {symbols : List Nat} {fbits payload : List Bit} {last : Option BandVector}
    (h : rxFrame num c g rx = .ok k p ds symbols fbits payload last) :
    detect rx (chirp num c g) c.syncThreshold = .ok (k, p) ∧ ∃ n vs,
      FrameAt num c g rx (k + g.lPreamble + g.gGuard) n vs ∧
        .ok k p ds symbols fbits payload last = frameOutcome c g k p n vs := by
  cases hd : detect rx (chirp num c g) c.syncThreshold with
  | error e => simp [rxFrame, hd] at h
  | ok q =>
    rcases Nat.lt_or_ge rx.length
      (q.1 + g.lPreamble + g.gGuard + ceilDiv c.lengthFieldBits g.bitsPerSymbol * g.nSymbol) with hshort | hlong
    · cases h.symm.trans (rxFrame_of_short hd hshort)
    cases hheader : demodWindows num c g rx (q.1 + g.lPreamble + g.gGuard) 0
        (ceilDiv c.lengthFieldBits g.bitsPerSymbol) with
    | error e => cases h.symm.trans (rxFrame_of_error hd hlong hheader)
    | ok header =>
      rw [rxFrame_of_header hd hlong hheader] at h
      rcases rxBody_cases (p := q.2) hw rfl hheader with ⟨e, index, hfail⟩ | ⟨n, vs, hframe, hok⟩
      · cases h.symm.trans hfail
      · have ho := h.symm.trans hok
        cases ho
        exact ⟨rfl, n, vs, hframe, rfl⟩

end Received

end Sys2Proof.Proofs
end

section
/-! SUPPORT. The loop-back (rule R190): the frame that a transmission carries stands in a capture of it. -/

namespace Sys2Proof.Proofs

open Sys2Proof.Machine Sys2Proof.Safety

section Capture

variable (num : Numerics) (c : ConfigRegs) (g : Geometry) (payload : List Bit) (k : Nat) (tail : List Sample)

/-- A capture of a transmission: k samples of silence before it, anything after it. -/
def capture : List Sample := silence k ++ txWaveform num c g payload ++ tail

variable {num c g payload k tail}

theorem length_txWaveform :
    (txWaveform num c g payload).length = g.lPreamble + g.gGuard + (frameSymbols c g payload).length * g.nSymbol := by
  obtain ⟨hlen, -⟩ := transmissionLayout num c g payload
  exact hlen

/-- Window i of the capture's data region is that of symbol i. -/
theorem window_capture {i x : Nat} (hx : (frameSymbols c g payload)[i]? = some x) :
    window (capture num c g payload k tail) (k + g.lPreamble + g.gGuard) g.nSymbol i =
      modulate num c g (toStates x g.statesPerBand c.bandCount) := by
  obtain ⟨-, -, -, hwindow⟩ := transmissionLayout num c g payload
  have hi : (i + 1) * g.nSymbol ≤ (frameSymbols c g payload).length * g.nSymbol :=
    Nat.mul_le_mul_right _ (List.getElem?_eq_some_iff.1 hx).1
  have hinside : g.lPreamble + g.gGuard + i * g.nSymbol + g.nSymbol ≤ (txWaveform num c g payload).length := by
    rw [length_txWaveform]
    rw [Nat.add_mul, one_mul] at hi
    omega
  rw [window_eq, capture, List.append_assoc, Nat.add_assoc k, Nat.add_assoc k, ← List.drop_drop,
    List.drop_left' (length_silence k), List.drop_append_of_le_length (by omega),
    List.take_append_of_le_length (by rw [List.length_drop]; omega), hwindow i x hx]

end Capture

section Loopback

/-- The vectors of a payload's frame, one for each symbol (rules R126, R187). -/
def frameVectors (c : ConfigRegs) (g : Geometry) (payload : List Bit) : List BandVector :=
  (frameSymbols c g payload).map fun x => toStates x g.statesPerBand c.bandCount

variable {num : Numerics} {c : ConfigRegs} {g : Geometry} {payload : List Bit} (hw : 1 ≤ g.bitsPerSymbol)
  (halphabet : 2 ^ g.bitsPerSymbol ≤ g.statesPerBand ^ c.bandCount)

include halphabet in
/-- A symbol is less than 2^w, so the alphabet has a vector for it (rule R29). -/
theorem map_fromStates_frameVectors :
    (frameVectors c g payload).map (fromStates g.statesPerBand) = frameSymbols c g payload := by
  rw [frameVectors, List.map_map]
  refine (List.map_congr_left fun x hx => ?_).trans (List.map_id _)
  exact (fromStates_toStates _ _ _).trans (Nat.mod_eq_of_lt ((pack_lt hx).trans_le halphabet))

include hw

theorem unpack_frameSymbols :
    unpack (frameSymbols c g payload) g.bitsPerSymbol (c.lengthFieldBits + payload.length) =
      frameBits payload c.lengthFieldBits := by
  rw [← length_frameBits, frameSymbols, unpack_pack_length _ hw]

include halphabet

/-- A capture of a transmission holds the frame sent, where each vector survives modulation. -/
theorem frameAt_capture {k : Nat} {tail : List Sample} (hlen : payload.length < 2 ^ c.lengthFieldBits)
    (hsurvive : ∀ x ∈ frameSymbols c g payload,
      demodulate num c g (modulate num c g (toStates x g.statesPerBand c.bandCount)) =
        .ok (toStates x g.statesPerBand c.bandCount)) :
    FrameAt num c g (capture num c g payload k tail) (k + g.lPreamble + g.gGuard) payload.length
      (frameVectors c g payload) := by
  have hcount : (frameSymbols c g payload).length = ceilDiv (c.lengthFieldBits + payload.length) g.bitsPerSymbol := by
    rw [frameSymbols, length_pack, length_frameBits]
  constructor
  case inside =>
    rw [← hcount, capture, List.length_append, List.length_append, length_silence, length_txWaveform]
    omega
  case windows =>
    refine demodWindows_eq_ok.2 ⟨List.length_map _ |>.trans hcount, fun i v hv => ?_⟩
    rw [frameVectors, List.getElem?_map, Option.map_eq_some_iff] at hv
    obtain ⟨x, hx, rfl⟩ := hv
    rw [Nat.zero_add, window_capture hx, hsurvive x (List.mem_of_getElem? hx)]
  case field =>
    rw [map_fromStates_frameVectors halphabet, ← take_unpack _ _ (Nat.le_add_right _ payload.length),
      unpack_frameSymbols hw, frameBits, List.take_left' (length_beBits _ _), beValue_beBits, Nat.mod_eq_of_lt hlen]

theorem frameOutcome_frameVectors (k : Nat) (p : Rat) :
    frameOutcome c g k p payload.length (frameVectors c g payload) =
      .ok k p (k + g.lPreamble + g.gGuard) (frameSymbols c g payload) (frameBits payload c.lengthFieldBits) payload
        (frameVectors c g payload).getLast? := by
  have hpayload : (frameBits payload c.lengthFieldBits).drop c.lengthFieldBits = payload :=
    List.drop_left' (length_beBits _ _)
  simp only [frameOutcome, map_fromStates_frameVectors halphabet, unpack_frameSymbols hw, hpayload, List.take_length]

end Loopback

/-- Settles O53: the capture holds the frame sent, and `rx_frame` answers it. -/
theorem loopbackReturnsThePayload : Obligations.LoopbackReturnsThePayload := by
  intro num c cap g payload k p tail hderive hlen rx symbols hd hsurvive
  obtain ⟨-, hw, hsize, halphabet, -⟩ := derivedGeometryMeetsTheInvariants _ _ _ hderive
  rw [hsize] at halphabet
  have hframe : FrameAt num c g rx (k + g.lPreamble + g.gGuard) payload.length (frameVectors c g payload) :=
    frameAt_capture hw halphabet hlen hsurvive
  exact ⟨_, (rxFrame_of_frameAt hw hd hframe).trans (frameOutcome_frameVectors hw halphabet k p)⟩

end Sys2Proof.Proofs
end

section
/-! SUPPORT. `RXFRAME` as the primitive commands (rule R189), over a frame in the capture as `FrameAt` describes it. -/

namespace Sys2Proof.Proofs

open Sys2Proof.Machine Sys2Proof.Safety

/-! ### A successful `RXFRAME` -/

/-- `RXFRAME` succeeds only with its checks passed and a frame in the capture. -/
theorem rxframe_success {s t : State} (hrun : s.flag .halted = false) (h : exec .rxframe s = .next t)
    (hok : t.result = 0) :
    s.flag .cfgValid = true ∧ RxframeAccepted s ∧ ∃ k p ds symbols fbits payload last,
      rxFrame Config.num s.cfg s.geo s.rxs = .ok k p ds symbols fbits payload last := by
  have hfailed {u : State} {code info index : Nat} (hcode : BitVec.ofNat 32 code ≠ 0)
      (hu : exec .rxframe s = .next (failed u code info index)) : False := by
    cases h.symm.trans hu
    exact hcode hok
  cases hcfg : s.flag .cfgValid with
  | false =>
    have hrefused := configured_of_unconfigured hrun hcfg
    exact (hfailed (by decide) ((hrefused _).trans (congrArg _ (raiseAt_eq_failed (by decide) 1 0 s)))).elim
  | true =>
    by_cases hcap : fits s.geo.lPreamble s.caps.samples = false ∨
        fits (s.rxs.length / s.geo.nSymbol) s.caps.syms = false ∨
        fits (s.rxs.length / s.geo.nSymbol * s.geo.bitsPerSymbol) s.caps.bits = false
    · exact (hfailed (by decide) (execRxframe_over_capacity hrun hcfg hcap)).elim
    simp only [not_or, Bool.not_eq_false] at hcap
    obtain ⟨hsamples, hsyms, hbits⟩ := hcap
    have haccepted : RxframeAccepted s := ⟨hsamples, hsyms, hbits⟩
    refine ⟨rfl, haccepted, ?_⟩
    cases hrx : rxFrame Config.num s.cfg s.geo s.rxs with
    | ok k p ds symbols fbits payload last => exact ⟨_, _, _, _, _, _, _, rfl⟩
    | syncError e => exact (hfailed (by decide) (execRxframe_of_syncError hrun hcfg haccepted hrx)).elim
    | decodeError k p ds e index =>
      exact (hfailed (by decide) (execRxframe_of_decodeError hrun hcfg haccepted hrx)).elim

/-! ### What the commands have written -/

/-- After `CHIRP; DETECT` that find offset k with peak p, the result not recorded yet. -/
def detected (s : State) (k : Nat) (p : Rat) : State :=
  (s.writeTpl (chirp Config.num s.cfg s.geo)).setSync k p (k + s.geo.lPreamble + s.geo.gGuard)

section DetectedFields

variable (s : State) (k : Nat) (p : Rat)

@[simp] theorem detected_cfg : (detected s k p).cfg = s.cfg := rfl
@[simp] theorem detected_geo : (detected s k p).geo = s.geo := rfl
@[simp] theorem detected_syms : (detected s k p).syms = s.syms := rfl
@[simp] theorem detected_caps : (detected s k p).caps = s.caps := rfl
@[simp] theorem flag_detected (f : Flag) :
    (detected s k p).flag f = (decide (Flag.synced = f) || (decide (Flag.tplValid = f) || s.flag f)) := by
  rw [detected, flag_setSync, flag_writeTpl]

end DetectedFields

/-- After `DEMOD; UNMAP` of windows with the vectors `vs` in turn, the result not recorded yet: their symbols appended, and
the last vector in `SV`. -/
def received (u : State) (vs : List BandVector) : State :=
  State.writeLastSv { u with syms := u.syms ++ vs.map (fromStates u.geo.statesPerBand) } vs.getLast?

section Fields

variable (u : State) (vs : List BandVector)

@[simp] theorem received_cfg : (received u vs).cfg = u.cfg := writeLastSv_cfg _ _
@[simp] theorem received_arg0 : (received u vs).arg0 = u.arg0 := writeLastSv_arg0 _ _
@[simp] theorem received_geo : (received u vs).geo = u.geo := writeLastSv_geo _ _
@[simp] theorem received_sync : (received u vs).sync = u.sync := writeLastSv_sync _ _
@[simp] theorem received_rxs : (received u vs).rxs = u.rxs := writeLastSv_rxs _ _
@[simp] theorem received_caps : (received u vs).caps = u.caps := writeLastSv_caps _ _
@[simp] theorem received_syms : (received u vs).syms = u.syms ++ vs.map (fromStates u.geo.statesPerBand) :=
  writeLastSv_syms _ _
@[simp] theorem flag_received (f : Flag) :
    (received u vs).flag f = (decide (vs ≠ [] ∧ Flag.svValid = f) || u.flag f) := by
  rw [received, flag_writeLastSv]
  simp

end Fields

theorem received_append (u : State) (vs : List BandVector) (v : BandVector) :
    received u (vs ++ [v]) = { (received u vs).writeSv v with
      syms := (received u vs).syms ++ [fromStates (received u vs).geo.statesPerBand v] } := by
  simp only [received_geo, received_syms, List.append_assoc]
  rw [received, received, writeSv_writeLastSv, List.getLast?_concat, List.map_append]
  rfl

/-- From an empty `SYMS`, the symbols appended are the symbols `RXFRAME` writes. -/
theorem succeed_received_with_frame {u : State} (hempty : u.syms = []) (vs : List BandVector) (fbits payload : List Bit) :
    succeed { succeed (received u vs) with fbits := fbits, payload := payload } =
      succeed ((u.writeFrame (vs.map (fromStates u.geo.statesPerBand)) fbits payload).writeLastSv vs.getLast?) := by
  rw [received, hempty, List.nil_append]
  cases vs.getLast? <;> rfl

/-! ### Window by window -/

section Windows

variable {u : State} (hrun : u.flag .halted = false) (hcfg : u.flag .cfgValid = true) (hsync : u.flag .synced = true)
  (hstep : 0 < u.cfg.step)
include hrun hcfg hsync hstep

/-- `DEMOD k; UNMAP` appends the symbol of window k and leaves its vector in `SV`. -/
theorem run_window {vs : List BandVector} {v : BandVector} {k : Nat}
    (hinside : u.sync.dataStart + (k + 1) * u.geo.nSymbol ≤ u.rxs.length)
    (hv : demodulate Config.num u.cfg u.geo (window u.rxs u.sync.dataStart u.geo.nSymbol k) = .ok v)
    (hcap : fits (u.syms.length + vs.length + 1) u.caps.syms = true) :
    runCommands [.demod k, .unmap] (succeed (received u vs)) = .next (succeed (received u (vs ++ [v]))) := by
  have hrun' : (received u vs).flag .halted = false := by simpa using hrun
  have hcfg' : (received u vs).flag .cfgValid = true := by simpa using hcfg
  obtain ⟨-, hdigits, hvalid, -⟩ := demodulatePicksEachBandsPeak _ _ _ _ _ hstep hv
  have hdemod : exec (.demod k) (succeed (received u vs)) = .next (succeed ((received u vs).writeSv v)) :=
    execDemod_of_ok (by simpa using hrun') (by simpa using hcfg') (by simpa using hsync) (by simpa using hinside)
      (by simpa using hv)
  have hsv : (succeed ((received u vs).writeSv v)).svValue = some v := (svValue_eq_some _ _).2 (by simp)
  have hunmap : exec .unmap (succeed ((received u vs).writeSv v)) = .next (succeed (received u (vs ++ [v]))) := by
    rw [received_append, execUnmap_of_fits (by simpa using hrun') (by simpa using hcfg') hsv (by simpa using hdigits)
      (by simpa using hcap), if_neg (by simpa using hvalid)]
    rfl
  rw [runCommands_cons hdemod, runCommands_cons hunmap, runCommands]

theorem run_windows {n : Nat} {vs : List BandVector}
    (hvs : demodWindows Config.num u.cfg u.geo u.rxs u.sync.dataStart 0 n = .ok vs)
    (hinside : u.sync.dataStart + n * u.geo.nSymbol ≤ u.rxs.length)
    (hcap : fits (u.syms.length + n) u.caps.syms = true) {k : Nat} (hk : k ≤ n) :
    runCommands ((List.range k).flatMap fun i => [.demod i, .unmap]) (succeed u) =
      .next (succeed (received u (vs.take k))) := by
  obtain ⟨rfl, hwindows⟩ := demodWindows_eq_ok.1 hvs
  induction k with
  | zero => simp [runCommands, received]
  | succ k ih =>
    rw [List.range_succ, List.flatMap_append, runCommands_append (ih (by omega)), List.flatMap_singleton,
      List.take_succ_eq_append_getElem hk]
    refine run_window hrun hcfg hsync hstep ?_ ?_ (fits_of_le hcap ?_)
    · exact (Nat.add_le_add_left (Nat.mul_le_mul_right _ hk) _).trans hinside
    · simpa using hwindows k _ (List.getElem?_eq_getElem hk)
    · rw [List.length_take_of_le (by omega)]
      omega

end Windows

/-! ### The preamble before them, the frame after them -/

section Ends

variable {u : State} (hrun : u.flag .halted = false) (hcfg : u.flag .cfgValid = true)
include hrun hcfg

theorem run_detection {k : Nat} {p : Rat} (hcap : fits u.geo.lPreamble u.caps.samples = true)
    (hd : detect u.rxs (chirp Config.num u.cfg u.geo) u.cfg.syncThreshold = .ok (k, p)) :
    runCommands [.chirp, .detect] u = .next (succeed (detected u k p)) := by
  have hdetect := execDetect_of_ok (s := succeed (u.writeTpl (chirp Config.num u.cfg u.geo))) (by simpa using hrun)
    (by simpa using hcfg) (by simp) hd
  rw [runCommands_cons (execChirp_of_fits hrun hcfg hcap), runCommands_cons hdetect]
  rfl

/-- `UNPACK; DEFRAME` of valid symbols that have the bits `ARG0` asks for: the field, whose value is n, and n bits. -/
theorem run_deframe {symbols : List Nat} {lfb w n : Nat} (hsyms : u.syms = symbols)
    (hlfb : u.cfg.lengthFieldBits = lfb) (hw : u.geo.bitsPerSymbol = w) (harg0 : u.arg0 = lfb + n)
    (hcap : fits (lfb + n) u.caps.bits = true) (hvalid : ∀ x ∈ symbols, x < 2 ^ w)
    (hlong : lfb + n ≤ symbols.length * w) (hfield : beValue (unpack symbols w lfb) = n) :
    let fbits := unpack symbols w (lfb + n)
    runCommands [.unpack, .deframe] u =
      .next (succeed { u with fbits := fbits, payload := (fbits.drop lfb).take n }) := by
  intro fbits
  subst hsyms hlfb hw
  have hunpack : exec .unpack u = .next (succeed { u with fbits := fbits }) := by
    rw [execUnpack_of_fits hrun hcfg hvalid (harg0 ▸ hcap), if_neg (not_lt.2 (harg0 ▸ hlong)), harg0]
  have hparse : parseFrame fbits u.cfg.lengthFieldBits = .ok ((fbits.drop u.cfg.lengthFieldBits).take n) := by
    rw [parseFrame_eq, take_unpack _ _ (Nat.le_add_right _ n), hfield, length_unpack hlong, if_pos le_rfl]
  have hdeframe := execDeframe_of_ok (s := succeed { u with fbits := fbits }) hrun hcfg hparse
  rw [runCommands_cons hunpack, runCommands_cons hdeframe]
  rfl

end Ends

/-- The symbols of windows that decode are valid (rule R155). -/
theorem fromStates_lt_of_demodWindows {num : Numerics} {c : ConfigRegs} {g : Geometry} {rx : List Sample} {ds n x : Nat}
    {vs : List BandVector} (hstep : 0 < c.step) (hvs : demodWindows num c g rx ds 0 n = .ok vs)
    (hx : x ∈ vs.map (fromStates g.statesPerBand)) : x < 2 ^ g.bitsPerSymbol := by
  obtain ⟨v, hv, rfl⟩ := List.mem_map.1 hx
  obtain ⟨i, hi⟩ := List.mem_iff_getElem?.1 hv
  obtain ⟨-, hwindows⟩ := demodWindows_eq_ok.1 hvs
  obtain ⟨-, -, hvalid, -⟩ := demodulatePicksEachBandsPeak _ _ _ _ _ hstep (hwindows i v hi)
  exact hvalid

/-- A frame inside the capture has no more symbols and bits than `RXFRAME` checked room for (rule R189). -/
theorem RxframeAccepted.fits_frame {s : State} {ds n : Nat} {vs : List BandVector} (haccepted : RxframeAccepted s)
    (hw : 1 ≤ s.geo.bitsPerSymbol) (hN : 1 ≤ s.geo.nSymbol) (hframe : FrameAt Config.num s.cfg s.geo s.rxs ds n vs) :
    fits vs.length s.caps.syms = true ∧ fits (s.cfg.lengthFieldBits + n) s.caps.bits = true := by
  obtain ⟨hcount, -⟩ := demodWindows_eq_ok.1 hframe.windows
  have hK : vs.length ≤ s.rxs.length / s.geo.nSymbol :=
    (Nat.le_div_iff_mul_le hN).2 (hcount ▸ (Nat.le_add_left _ _).trans hframe.inside)
  have hlong := hframe.le_symbols hw
  rw [List.length_map] at hlong
  exact ⟨fits_of_le haccepted.syms hK, fits_of_le haccepted.bits (hlong.trans (Nat.mul_le_mul_right _ hK))⟩

/-- All of the receiver's commands, on a capture that holds a frame where the detection finds the preamble. -/
theorem run_receiver {u : State} (hrun : u.flag .halted = false) (hcfg : u.flag .cfgValid = true)
    (hderive : derive u.cfg u.caps.bands = .ok u.geo) (haccepted : RxframeAccepted u) {k n : Nat} {p : Rat}
    {vs : List BandVector} (hd : detect u.rxs (chirp Config.num u.cfg u.geo) u.cfg.syncThreshold = .ok (k, p))
    (hframe : FrameAt Config.num u.cfg u.geo u.rxs (k + u.geo.lPreamble + u.geo.gGuard) n vs)
    (hempty : u.syms = []) (harg0 : u.arg0 = u.cfg.lengthFieldBits + n) :
    let symbols := vs.map (fromStates u.geo.statesPerBand)
    let fbits := unpack symbols u.geo.bitsPerSymbol (u.cfg.lengthFieldBits + n)
    runCommands ([Instr.chirp, .detect] ++ (List.range vs.length).flatMap (fun i => [Instr.demod i, .unmap]) ++
      [Instr.unpack, .deframe]) u = .next (succeed (((detected u k p).writeFrame symbols fbits
        ((fbits.drop u.cfg.lengthFieldBits).take n)).writeLastSv vs.getLast?)) := by
  intro symbols fbits
  obtain ⟨-, hw, -, -, -, -, hN, -⟩ := derivedGeometryMeetsTheInvariants _ _ _ hderive
  obtain ⟨⟨-, -, -, hstep, -⟩, -⟩ := (derive_eq_ok _ _ _).1 hderive
  obtain ⟨hcount, -⟩ := demodWindows_eq_ok.1 hframe.windows
  obtain ⟨hsyms, hbits⟩ := haccepted.fits_frame hw hN hframe
  have hempty' : (detected u k p).syms = [] := hempty
  have hsymbols : (received (detected u k p) vs).syms = symbols := by simp [hempty, symbols]
  have hwindows := run_windows (u := detected u k p) (by simpa using hrun) (by simpa using hcfg) (by simp) hstep
    hframe.windows hframe.inside (by simpa [hempty, ← hcount] using hsyms) hcount.le
  have hdeframe := run_deframe (u := succeed (received (detected u k p) vs)) (by simpa using hrun) (by simpa using hcfg)
    hsymbols (congrArg _ (received_cfg _ _)) (congrArg _ (received_geo _ _)) ((received_arg0 _ _).trans harg0)
    (by simpa using hbits) (fun _ => fromStates_lt_of_demodWindows hstep hframe.windows) (hframe.le_symbols hw) hframe.field
  rw [List.append_assoc, runCommands_append (run_detection hrun hcfg haccepted.samples hd), runCommands_append hwindows,
    List.take_length, hdeframe]
  exact congrArg _ (succeed_received_with_frame hempty' _ _ _)

/-- Settles O52: the accepted `RXFRAME` and the commands, window by window, write the same. -/
theorem rxframeEqualsThePrimitiveCommands : Obligations.RxframeEqualsThePrimitiveCommands := by
  intro s t hinv hrun h hok a
  obtain ⟨hcfg, haccepted, k, p, ds, symbols, fbits, payload, last, hrx⟩ := rxframe_success hrun h hok
  rw [execRxframe_of_ok hrun hcfg haccepted hrx] at h
  cases h
  obtain ⟨hderive, -⟩ := hinv.geometry.configured hcfg
  obtain ⟨-, hw, -⟩ := derivedGeometryMeetsTheInvariants _ _ _ hderive
  obtain ⟨hd, n, vs, hframe, hout⟩ := frameAt_of_rxFrame hw hrx
  cases hout
  have ha : a = s.cfg.lengthFieldBits + n := by simp [a, length_unpack (hframe.le_symbols hw)]
  have haccepted' : RxframeAccepted { s with syms := [], arg0 := a } :=
    ⟨haccepted.samples, haccepted.syms, haccepted.bits⟩
  have hreceiver := run_receiver (u := { s with syms := [], arg0 := a }) hrun hcfg hderive haccepted' hd hframe rfl ha
  rw [succeed_syms, writeLastSv_syms, writeFrame_syms, List.length_map, hreceiver]
  cases vs.getLast? <;> rfl

end Sys2Proof.Proofs
end

section
/-! SUPPORT. What a failing command changes, and the commands refused for their place in the sequence (rules R203, R204,
R226 to R229). -/

namespace Sys2Proof.Proofs

open Sys2Proof.Machine Sys2Proof.Safety

/-! ### The state of each kind of failure (rule R203) -/

section Failures

variable {i : Instr} {s u t : State} {e : ResultCode}

theorem Reaches.of_refusal (h : Reaches i s e u) (he : e ∈ [.operandError, .illegalCommand, .sequenceError]) :
    u = s := by
  cases h with
  | refused => rfl
  | _ => simp at he

theorem Reaches.of_configError (h : Reaches i s .configError u) : i = .derive ∧ u = s := by
  cases h with
  | refused he => simp at he
  | deriveFails => exact ⟨rfl, rfl⟩

theorem Reaches.of_syncError (h : Reaches i s .syncError u) :
    (i = .detect ∧ u = s.clearSync) ∨
      (i = .rxframe ∧ u = (s.writeTpl (Machine.chirp Config.num s.cfg s.geo)).clearSync.writeFrame [] [] []) := by
  cases h with
  | refused he => simp at he
  | detectFails => exact .inl ⟨rfl, rfl⟩
  | rxframeUnsynced => exact .inr ⟨rfl, rfl⟩

/-- Recording a failure other than `ConfigError` writes the three result registers alone. -/
theorem Records.eq_of_ne_configError (h : Records e u t) (he : e ≠ .configError) :
    t = { u with result := t.result, errlog := t.errlog, errinfo := t.errinfo } := by
  have hresult := h.result_eq
  rwa [Records, if_neg he, ← hresult] at h

theorem Records.eq_of_configError (h : Records .configError u t) :
    t = { u with
      result := t.result, errlog := t.errlog, errinfo := t.errinfo, status := u.status ||| Flag.halted.mask } := by
  have hresult := h.result_eq
  rwa [Records, if_pos rfl, ← hresult] at h

/-- A recorded result word names the code reached. -/
theorem Records.code_eq (h : Records e u t) {f : ResultCode} (hf : t.result = f.resultWord) : e = f :=
  resultWord_injective (h.result_eq.symm.trans hf)

end Failures

/-- Settles O14: the state of a failure is exact in `Reaches`, code by code, and recording the result adds the result
registers and, for `ConfigError`, `HALTED`. -/
theorem failuresChangeOnlyWhatTheRuleNames : Obligations.FailuresChangeOnlyWhatTheRuleNames := by
  intro i s t hrun h r
  obtain ⟨e, u, hu, ht⟩ := (ends_of_exec hrun h).exists_records
  refine ⟨fun hresult => ?refusal, fun hresult => ?configError, fun hresult => ?syncError, fun hresult => ?decodeError⟩
  case refusal =>
    have he : e ∈ [.operandError, .illegalCommand, .sequenceError] := by
      simp only [List.mem_cons, List.not_mem_nil, or_false] at hresult ⊢
      exact hresult.imp (ht.code_eq (f := .operandError))
        (Or.imp (ht.code_eq (f := .illegalCommand)) (ht.code_eq (f := .sequenceError)))
    obtain rfl := hu.of_refusal he
    exact ht.eq_of_ne_configError (by rintro rfl; simp at he)
  case configError =>
    obtain rfl : e = .configError := ht.code_eq hresult
    obtain ⟨rfl, rfl⟩ := hu.of_configError
    exact ⟨rfl, ht.eq_of_configError⟩
  case syncError =>
    obtain rfl : e = .syncError := ht.code_eq hresult
    have ht' := ht.eq_of_ne_configError (by decide)
    rcases hu.of_syncError with ⟨hi, rfl⟩ | ⟨hi, rfl⟩
    · exact .inl ⟨hi, ht'⟩
    · exact .inr ⟨hi, ht'⟩
  case decodeError =>
    obtain rfl : e = .decodeError := ht.code_eq hresult
    have ht' := ht.eq_of_ne_configError (by decide)
    simp only [List.map_const']
    cases hu with
    | refused he => simp at he
    | unpackFails => exact .inl ⟨rfl, ht'⟩
    | deframeFails => exact .inr (.inl ⟨rfl, ht'⟩)
    | unmapFails => exact .inr (.inr (.inl ⟨rfl, ht'⟩))
    | demodFails k => exact .inr (.inr (.inr (.inl ⟨⟨k, rfl⟩, ht'⟩)))
    | @rxframeFails _ p hp => exact .inr (.inr (.inr (.inr ⟨rfl, p.1, p.2, hp, ht'⟩)))

/-! ### Commands out of sequence (rule R204) -/

/-- The refusal of every sequence check, in the registers' layout (rule R205). -/
theorem raiseErr_sequenceError (info : BitVec 8) (s : State) :
    raiseErr .sequenceError info s = failed s 7 info.toNat 0 := raiseAt_eq_failed (by decide) info 0 s

section Sequence

variable {s : State} (hrun : s.flag .halted = false)
include hrun

theorem exec_of_unconfigured (hc : s.flag .cfgValid = false) {i : Instr} (hnop : i ≠ .nop) (hderive : i ≠ .derive)
    (hclrerr : i ≠ .clrerr) : exec i s = .next (failed s 7 1 0) := by
  have hrefused (body : State) : configured s body = .next (failed s 7 1 0) :=
    (configured_of_unconfigured hrun hc body).trans (congrArg _ (raiseErr_sequenceError 1 s))
  cases i with
  | nop => exact absurd rfl hnop
  | derive => exact absurd rfl hderive
  | clrerr => exact absurd rfl hclrerr
  | _ => exact hrefused _

variable (hc : s.flag .cfgValid = true)
include hc

theorem execDerive_of_configured : exec .derive s = .next (failed s 7 2 0) := by
  rw [exec, execDerive, unlessHalted_of_running hrun, if_pos hc, raiseErr_sequenceError]
  rfl

theorem execUnmap_without_vector (hv : s.svValue = none) : exec .unmap s = .next (failed s 7 3 0) := by
  rw [exec, execUnmap, configured_of_ready hrun hc, hv]
  exact congrArg _ (raiseErr_sequenceError 3 s)

theorem execMod_without_vector (hv : s.svValue = none) : exec .mod s = .next (failed s 7 3 0) := by
  rw [exec, execMod, configured_of_ready hrun hc, hv]
  exact congrArg _ (raiseErr_sequenceError 3 s)

theorem execTxpre_without_template (htpl : s.flag .tplValid = false) : exec .txpre s = .next (failed s 7 4 0) := by
  rw [exec, execTxpre, configured_of_ready hrun hc, if_pos htpl, raiseErr_sequenceError]
  rfl

theorem execDetect_without_template (htpl : s.flag .tplValid = false) : exec .detect s = .next (failed s 7 4 0) := by
  rw [exec, execDetect, configured_of_ready hrun hc, if_pos htpl, raiseErr_sequenceError]
  rfl

theorem execDemod_unsynced (hsync : s.flag .synced = false) (i : Nat) :
    exec (.demod i) s = .next (failed s 7 5 0) := by
  rw [exec, execDemod, configured_of_ready hrun hc, if_pos hsync, raiseErr_sequenceError]
  rfl

end Sequence

/-- Settles O15: each command's sequence check, the first one it makes that fails. -/
theorem commandsOutOfSequenceAreRefused : Obligations.CommandsOutOfSequenceAreRefused := by
  intro s hrun
  refine ⟨fun hc i => exec_of_unconfigured hrun hc, fun hc => ⟨execDerive_of_configured hrun hc, fun hsv => ?vector,
    fun htpl => ⟨execTxpre_without_template hrun hc htpl, execDetect_without_template hrun hc htpl⟩,
    execDemod_unsynced hrun hc⟩⟩
  case vector =>
    have hv : s.svValue = none := if_neg (by simp [hsv])
    exact ⟨execUnmap_without_vector hrun hc hv, execMod_without_vector hrun hc hv⟩

end Sys2Proof.Proofs
end

section
/-! SUPPORT. Every step answers a next state, and the mode changes by `DERIVE` and reset alone (rules R195, R205, R206,
R213, R214). -/

namespace Sys2Proof.Proofs

open Sys2Proof.Machine Sys2Proof.Safety

/-! ### A next state always (rules R195, R205, R206) -/

theorem exists_issueWord_eq_next (c : Word) (s : State) : ∃ t, issueWord c s = .next t := by
  cases hrun : s.flag .halted with
  | true => exact ⟨s, issueWord_of_halted hrun c⟩
  | false => exact (issueWord_keeps_word hrun c).imp fun _ ht => ht.1

theorem exists_hostMove_eq_next (m : HostMove) (s : State) : ∃ t, hostMove m s = .next t := by
  cases m with
  | issue c => exact exists_issueWord_eq_next c s
  | writeReg no v =>
    rw [hostMove, hostWriteReg]
    split_ifs
    · split
      · exact exists_issueWord_eq_next _ s
      · exact ⟨_, rfl⟩
    · exact ⟨_, rfl⟩
  | readReg | writeSv | readSv | load | read | reset => exact ⟨_, rfl⟩

theorem step_of_idle {s : State} (h : s.pending = []) : step s = .next s := by rw [step, nextMove, h]

/-- Settles O7: every command by the form of its checks, and every host move, whichever is the oldest. -/
theorem everyStepAnswersANextState : Obligations.EveryStepAnswersANextState := by
  refine ⟨exists_exec_eq_next, fun s => ?_, fun s => step_of_idle⟩
  cases hp : s.pending with
  | nil => exact ⟨s, step_of_idle hp⟩
  | cons m rest =>
    rw [step_of_pending hp]
    exact exists_hostMove_eq_next m _

/-! ### The modes (rules R212, R213) -/

theorem mode_eq_unconfigured (s : State) :
    s.mode = .unconfigured ↔ s.flag .halted = false ∧ s.flag .cfgValid = false := by
  unfold State.mode
  split_ifs <;> simp_all

theorem mode_eq_ready (s : State) : s.mode = .ready ↔ s.flag .halted = false ∧ s.flag .cfgValid = true := by
  unfold State.mode
  split_ifs <;> simp_all

theorem mode_eq_halted (s : State) : s.mode = .halted ↔ s.flag .halted = true := by
  unfold State.mode
  split_ifs <;> simp_all

/-- The mode is read from two flags. -/
theorem mode_congr {s t : State} (hhalted : t.flag .halted = s.flag .halted)
    (hc : t.flag .cfgValid = s.flag .cfgValid) : t.mode = s.mode := by
  rw [State.mode, hhalted, hc, State.mode]

/-- `STATUS` is 0 after reset (rule R43). -/
theorem mode_hostReset (s : State) : (hostReset s).mode = .unconfigured := by
  simp [mode_eq_unconfigured, State.flag, hostReset, State.resetWith]

section Modes

variable {s t : State}

/-- In mode UNCONFIGURED, `DERIVE` ends in one of two ways (rules R93, R96). -/
theorem mode_of_derive (hs : s.mode = .unconfigured) (h : exec .derive s = .next t) :
    (t.mode = .ready ∧ t.result = 0) ∨ (t.mode = .halted ∧ t.result = 1) := by
  obtain ⟨hrun, hc⟩ := (mode_eq_unconfigured s).1 hs
  rw [exec] at h
  cases hd : derive s.cfg s.caps.bands with
  | ok g =>
    rw [execDerive_of_derive hrun hc hd] at h
    cases h
    exact .inl ⟨(mode_eq_ready _).2 ⟨by simpa using hrun, by simp⟩, rfl⟩
  | error e =>
    rw [execDerive_of_error hrun hc hd] at h
    cases h
    exact .inr ⟨(mode_eq_halted _).2 (flag_of_or s _ .halted rfl .halted), rfl⟩

/-- A command that changes the mode is `DERIVE` in mode UNCONFIGURED. -/
theorem derive_of_mode_ne {i : Instr} (h : exec i s = .next t) (hne : t.mode ≠ s.mode) :
    i = .derive ∧ s.mode = .unconfigured := by
  obtain ⟨-, hcfgValid, hhalted, -⟩ := eachFlagHasItsWriters i s t h
  have hi : i = .derive := by
    by_contra hi
    exact hne (mode_congr (by_contra fun hno => hi (hhalted hno).2.1) (by_contra fun hno => hi (hcfgValid hno).2.1))
  subst hi
  refine ⟨rfl, (mode_eq_unconfigured s).2 ?_⟩
  cases hrun : s.flag .halted with
  | true =>
    rw [exec_of_halted _ hrun] at h
    cases h
    exact absurd rfl hne
  | false =>
    refine ⟨rfl, Bool.eq_false_iff.2 fun hc => ?_⟩
    rw [execDerive_of_configured hrun hc] at h
    cases h
    exact hne rfl

/-- A word that changes the mode is that of `DERIVE`, issued in mode UNCONFIGURED. -/
theorem issueWord_changes_mode {c : Word} (h : issueWord c s = .next t) (hne : t.mode ≠ s.mode) :
    s.mode = .unconfigured ∧ t.cmd = encode .derive ∧
      ((t.mode = .ready ∧ t.result = 0) ∨ (t.mode = .halted ∧ t.result = 1)) := by
  cases hrun : s.flag .halted with
  | true =>
    rw [issueWord_of_halted hrun] at h
    cases h
    exact absurd rfl hne
  | false =>
    cases hdec : decode c with
    | error r =>
      rw [issueWord_of_error hrun hdec] at h
      cases h
      exact absurd rfl hne
    | ok i =>
      rw [issueWord_of_decode hrun hdec] at h
      obtain ⟨rfl, hs⟩ := derive_of_mode_ne (s := { s with cmd := c }) h hne
      obtain ⟨hword, -⟩ := encodeInvertsDecode c _ hdec
      exact ⟨hs, (cmd_of_exec h).trans hword.symm, mode_of_derive hs h⟩

theorem mode_loadBuffer (s : State) (buf : Buffer) (d : BufData) : (s.loadBuffer buf d).mode = s.mode := by
  fun_cases State.loadBuffer s buf d with
  | case9 => exact mode_congr (flag_clearSync _ _) (flag_clearSync _ _)
  | _ => rfl

/-- A host move other than reset keeps the mode or writes the command port. -/
theorem mode_hostMove {m : HostMove} (hm : m ≠ .reset) (h : hostMove m s = .next t) :
    t.mode = s.mode ∨ ∃ c, issueWord c s = .next t := by
  cases m with
  | writeReg no v =>
    rw [hostMove, hostWriteReg] at h
    split_ifs at h
    · split at h
      next c _ => exact .inr ⟨c, h⟩
      next => cases h; exact .inl rfl
    · cases h
      exact .inl (mode_congr (flag_writeReg s no v _) (flag_writeReg s no v _))
  | writeSv v =>
    cases h
    unfold hostWriteSv
    split_ifs
    · exact .inl (mode_congr (flag_writeSv s v _) (flag_writeSv s v _))
    · exact .inl rfl
  | load buf d =>
    cases h
    unfold hostLoad
    split_ifs
    · exact .inl rfl
    · exact .inl (mode_loadBuffer s buf d)
  | issue c => exact .inr ⟨c, h⟩
  | reset => exact absurd rfl hm
  | readReg | readSv | read => cases h; exact .inl rfl

end Modes

/-- Settles O11: reset clears `STATUS`, and of the other moves only the word of `DERIVE` in mode UNCONFIGURED can change
the mode. -/
theorem modeChangesOnlyByDeriveAndReset : Obligations.ModeChangesOnlyByDeriveAndReset := by
  refine ⟨fun s t rest hp hstep => ?reset, fun s t hs h => ?derive, fun s t hstep hne => ?step⟩
  case reset =>
    rw [step_of_pending hp] at hstep
    cases hstep
    exact mode_hostReset _
  case derive =>
    rcases mode_of_derive hs h with ⟨hmode, hresult⟩ | ⟨hmode, hresult⟩
    · exact ⟨fun _ => hmode, fun hno => absurd hresult hno⟩
    · exact ⟨fun hok => absurd (hresult.symm.trans hok) (by decide), fun _ => hmode⟩
  case step =>
    cases hp : s.pending with
    | nil =>
      rw [step_of_idle hp] at hstep
      cases hstep
      exact absurd rfl hne
    | cons m rest =>
      rw [step_of_pending hp] at hstep
      by_cases hm : m = .reset
      · exact .inl ⟨rest, hm ▸ rfl⟩
      · rcases mode_hostMove hm hstep with hkept | ⟨c, hissue⟩
        · exact absurd hkept hne
        · exact .inr (issueWord_changes_mode (s := { s with pending := rest }) hissue hne)

end Sys2Proof.Proofs
end
